-- ==== Sys2Proof/Word.lean ====
section
/-!
DEFINITION. The widths of NCCE's values (00_scope.md R5, R7): every value is an unsigned bit string.
-/
namespace Sys2Proof

/-- A word of the 32-bit bus, a half block, a modexp operand (R5, R6, R7). -/
abbrev Word := BitVec 32

/-- A 64-bit block or key (R5: BLOCK_BITS, KEY_BITS). -/
abbrev Block := BitVec 64

/-- A 28-bit half of the key schedule (R5: CD_BITS). -/
abbrev KeyHalf := BitVec 28

/-- A 48-bit round subkey (R5: SUBKEY_BITS). -/
abbrev SubKey := BitVec 48

/-- A byte of a block or of a message (R11). -/
abbrev Byte := BitVec 8

end Sys2Proof
end

