-- ==== Sys2Proof/Config.lean ====
section
/-!
DEFINITION. What an implementation fixes, and the free values.
Every `opaque` here has no body: nothing in Lean can evaluate it or prove a value of it.
-/
namespace Sys2Proof.Config

/-- The value of the `ID` register, ASCII "NCCE" (R6, R22). -/
def idValue : Word := 0x4E434345#32

/-- The open parameter BASE in units of 0x100 (R6, R50, D4); log entry 9. -/
opaque basePage : Nat

/-- BASE, the physical address of the register window: "a multiple of 0x100" (R50). -/
def base : Nat := 0x100 * basePage

/-- The n-th answer of the entropy source, `draw64()`: a free value "under no law" (R13, R37, D29);
log entry 7. `State.entropyDraws` says which draw is next. -/
opaque entropy : Nat → Block

/-- The n-th `draw32()`, the arbitrary value of a data-register read while busy (R13, R39, D16); log
entry 8. `State.busyReads` says which draw is next. -/
opaque busyRead : Nat → Word

/-- The open parameter DEMO_DES_KEY (R6, R241, D35). -/
opaque demoDesKey : Block

/-- The open parameter DEMO_RSA_KEYS, its public exponent e (R6, R241, D35). -/
opaque demoRsaE : Word

/-- The open parameter DEMO_RSA_KEYS, its private exponent d (R6, R241, D35). -/
opaque demoRsaD : Word

/-- The open parameter DEMO_RSA_KEYS, its modulus n (R6, R241, D35). -/
opaque demoRsaN : Word

end Sys2Proof.Config
end

