-- ==== Sys2Proof/Syntax.lean ====
section
/-!
DEFINITION. The commands of NCCE: one constructor for each row of the opcode map (30_encoding.md R83).
-/
namespace Sys2Proof

/-- A command. The operand of `sbox`, `ksEncStep`, `ksDecStep` and `pad` is the whole IMM8 field
(R80, R82): a value outside its legal range is still a command, which the engine rejects with
BAD_OPERAND (R86). -/
inductive Instr where
  /-- NOP, OPC 0x00 (R100). -/
  | nop
  /-- SRESET, OPC 0x01 (R101). -/
  | sreset
  /-- IP, OPC 0x10 (R120). -/
  | ip
  /-- FP, OPC 0x11 (R121). -/
  | fp
  /-- EXPAND, OPC 0x12 (R122). -/
  | expand
  /-- PPERM, OPC 0x13 (R123). -/
  | pperm
  /-- PC1, OPC 0x14 (R124). -/
  | pc1
  /-- PC2, OPC 0x15 (R125). -/
  | pc2
  /-- SBOX n, OPC 0x16 (R126). -/
  | sbox (n : Byte)
  /-- FFUNC, OPC 0x20 (R141). -/
  | ffunc
  /-- BLK_LOAD, OPC 0x21 (R142). -/
  | blkLoad
  /-- ROUND, OPC 0x22 (R143). -/
  | round
  /-- BLK_STORE, OPC 0x23 (R144). -/
  | blkStore
  /-- ENC_BLOCK, OPC 0x24 (R147). -/
  | encBlock
  /-- DEC_BLOCK, OPC 0x25 (R148). -/
  | decBlock
  /-- KS_ENC_STEP i, OPC 0x30 (R173). -/
  | ksEncStep (i : Byte)
  /-- KS_DEC_STEP i, OPC 0x31 (R174). -/
  | ksDecStep (i : Byte)
  /-- CBC_ENC, OPC 0x40 (R190). -/
  | cbcEnc
  /-- CBC_DEC, OPC 0x41 (R191). -/
  | cbcDec
  /-- IV_GEN, OPC 0x42 (R192). -/
  | ivGen
  /-- PAD n, OPC 0x43 (R193). -/
  | pad (n : Byte)
  /-- UNPAD, OPC 0x44 (R196). -/
  | unpad
  /-- MODEXP, OPC 0x50 (R221). -/
  | modexp
deriving DecidableEq, Repr

end Sys2Proof
end

