-- ==== Sys2Proof/WellFormed.lean ====
section
/-!
DEFINITION. The legal range of a command's operand (30_encoding.md R82).
-/
namespace Sys2Proof

/-- The operand lies in the legal range of R82: 0..7 for SBOX and PAD, 0..15 for the key-schedule
steps. A command outside it is rejected with BAD_OPERAND (R86, R264 step 4). -/
def Instr.wellFormed : Instr → Bool
  | .sbox n => decide (n.toNat < 8)
  | .ksEncStep i => decide (i.toNat < 16)
  | .ksDecStep i => decide (i.toNat < 16)
  | .pad n => decide (n.toNat < 8)
  | .nop => true
  | .sreset => true
  | .ip => true
  | .fp => true
  | .expand => true
  | .pperm => true
  | .pc1 => true
  | .pc2 => true
  | .ffunc => true
  | .blkLoad => true
  | .round => true
  | .blkStore => true
  | .encBlock => true
  | .decBlock => true
  | .cbcEnc => true
  | .cbcDec => true
  | .ivGen => true
  | .unpad => true
  | .modexp => true

end Sys2Proof
end

