-- ==== Sys2Proof/Decode.lean ====
section
/-!
DEFINITION. The command decoder and encoder (30_encoding.md R80, R83 to R85).
-/
namespace Sys2Proof

/-- Why a word is no command: the three cases of R85, all of them error 1 ILLEGAL_CMD. -/
inductive DecodeError where
  /-- OPC is not in R83's table (R85 a; R264 step 1). -/
  | unassignedOpcode
  /-- RSV is not zero (R85 b; R264 step 2). -/
  | reservedNotZero
  /-- IMM8 is not zero on an opcode without an operand (R84, R85 c; R264 step 3). -/
  | operandNotAllowed
deriving DecidableEq, Repr

/-- The OPC field, bits 7:0 (R80). -/
def opcField (w : Word) : Byte := w.extractLsb' 0 8

/-- The IMM8 field, bits 15:8 (R80). -/
def immField (w : Word) : Byte := w.extractLsb' 8 8

/-- The RSV field, bits 31:16 (R80). -/
def rsvField (w : Word) : BitVec 16 := w.extractLsb' 16 16

/-- A command without an operand: RSV and IMM8 must be 0 (R84, R85), in R264's order. -/
def decodePlain (w : Word) (i : Instr) : Except DecodeError Instr :=
  if rsvField w ≠ 0 then .error .reservedNotZero
  else if immField w ≠ 0 then .error .operandNotAllowed
  else .ok i

/-- A command with an operand: RSV must be 0, and IMM8 is the operand whatever its value (R82). -/
def decodeWithOperand (w : Word) (i : Byte → Instr) : Except DecodeError Instr :=
  if rsvField w ≠ 0 then .error .reservedNotZero else .ok (i (immField w))

/-- The decoder: R83's opcode map, with the illegal encodings of R85 refused by name. -/
def decode (w : Word) : Except DecodeError Instr :=
  match (opcField w).toNat with
  | 0x00 => decodePlain w .nop
  | 0x01 => decodePlain w .sreset
  | 0x10 => decodePlain w .ip
  | 0x11 => decodePlain w .fp
  | 0x12 => decodePlain w .expand
  | 0x13 => decodePlain w .pperm
  | 0x14 => decodePlain w .pc1
  | 0x15 => decodePlain w .pc2
  | 0x16 => decodeWithOperand w .sbox
  | 0x20 => decodePlain w .ffunc
  | 0x21 => decodePlain w .blkLoad
  | 0x22 => decodePlain w .round
  | 0x23 => decodePlain w .blkStore
  | 0x24 => decodePlain w .encBlock
  | 0x25 => decodePlain w .decBlock
  | 0x30 => decodeWithOperand w .ksEncStep
  | 0x31 => decodeWithOperand w .ksDecStep
  | 0x40 => decodePlain w .cbcEnc
  | 0x41 => decodePlain w .cbcDec
  | 0x42 => decodePlain w .ivGen
  | 0x43 => decodeWithOperand w .pad
  | 0x44 => decodePlain w .unpad
  | 0x50 => decodePlain w .modexp
  | _ => .error .unassignedOpcode

/-- A command word: "`zext_32(IMM8 << 8) | OPC`" (R83), with RSV zero. -/
def commandWord (opc imm : Byte) : Word := 0#16 ++ imm ++ opc

/-- The encoder: each command's word in R83's opcode map. -/
def encode : Instr → Word
  | .nop => commandWord 0x00 0
  | .sreset => commandWord 0x01 0
  | .ip => commandWord 0x10 0
  | .fp => commandWord 0x11 0
  | .expand => commandWord 0x12 0
  | .pperm => commandWord 0x13 0
  | .pc1 => commandWord 0x14 0
  | .pc2 => commandWord 0x15 0
  | .sbox n => commandWord 0x16 n
  | .ffunc => commandWord 0x20 0
  | .blkLoad => commandWord 0x21 0
  | .round => commandWord 0x22 0
  | .blkStore => commandWord 0x23 0
  | .encBlock => commandWord 0x24 0
  | .decBlock => commandWord 0x25 0
  | .ksEncStep i => commandWord 0x30 i
  | .ksDecStep i => commandWord 0x31 i
  | .cbcEnc => commandWord 0x40 0
  | .cbcDec => commandWord 0x41 0
  | .ivGen => commandWord 0x42 0
  | .pad n => commandWord 0x43 n
  | .unpad => commandWord 0x44 0
  | .modexp => commandWord 0x50 0

/-- The instruction the decoder reads from a table word: every command is one 32-bit word (R81), and
a bit the table gives no place is 0. -/
def decodeTableWord (nbits w : Nat) : Option Instr :=
  match decode (BitVec.ofNat 32 (w % 2 ^ nbits)) with
  | .ok i => some i
  | .error _ => none

end Sys2Proof
end

