-- ==== Sys2Proof/Machine/State.lean ====
section
/-!
DEFINITION. The machine's state: every register and hidden slot of 10_state.md, the schedule of the
agents, and the ways a step can stop.
-/
namespace Sys2Proof.Machine

/-- Why a step stops with a fault. -/
inductive Fault where
  /-- Raised by a host access at a physical address outside `BASE` to `BASE + 0xFF`: "NCCE decodes no
  address outside the window" (R50). Safe: the machine stops where the hardware is not addressed at
  all (log entry 9). -/
  | outsideWindow
deriving DecidableEq, Repr

/-- Why a step refuses. -/
inductive Refusal where
  /-- Raised by `exec` for an instruction without a meaning. No arm of `exec` raises it: every row of
  the opcode table has its meaning. Safe. -/
  | notModelled (mnemonic : String)
deriving DecidableEq, Repr

/-- The error codes of `STATUS.ERRCODE` (R265). Codes 6 to 15 are "never raised", so they have no
constructor (log entry 12). -/
inductive ErrCode where
  /-- Code 0 NONE: `ERR = 0`. -/
  | none
  /-- Code 1 ILLEGAL_CMD. -/
  | illegalCmd
  /-- Code 2 BAD_OPERAND. -/
  | badOperand
  /-- Code 3 CMD_WHILE_BUSY. -/
  | cmdWhileBusy
  /-- Code 4 WRITE_WHILE_BUSY. -/
  | writeWhileBusy
  /-- Code 5 MOD_ZERO. -/
  | modZero
deriving DecidableEq, Repr

/-- The size of a bus access: R54 names 8, 16, 32 and 64 bits. -/
inductive Size where
  | byte
  | half
  | word
  | dword
deriving DecidableEq, Repr

/-- One move of one agent (R20). `addr` is a physical address (R50). A write carries 32 bits of data:
an access of another size is a bus error whatever its data (R54; log entry 10). -/
inductive Event where
  /-- The host reads (R55). -/
  | read (addr : Nat) (size : Size)
  /-- The host writes (R56). -/
  | write (addr : Nat) (size : Size) (data : Word)
  /-- The engine's turn: its completion step, if one is enabled (R266). -/
  | engine
  /-- The reset input acts (R290). -/
  | reset
deriving DecidableEq, Repr

/-- What the bus answers the host (R54 to R56). -/
inductive BusResponse where
  /-- A read returned this word. -/
  | data (value : Word)
  /-- A write was taken. -/
  | written
  /-- The access completed with a bus error (R54). -/
  | busError
deriving DecidableEq, Repr

end Sys2Proof.Machine

namespace Sys2Proof.Machine

/-- The state of NCCE. `STATUS.BUSY` is no field: it "= 1 exactly when `PENDING ≠ none`" (R35; log
entry 11), see `State.busy`. -/
structure State where
  /-- CTRL.IE_DONE (R23). -/
  ieDone : Bool
  /-- CTRL.IE_ERR (R23). -/
  ieErr : Bool
  /-- STATUS.DONE (R24). -/
  done : Bool
  /-- STATUS.ERR (R24). -/
  err : Bool
  /-- STATUS.ERRCODE (R24, R265). -/
  errCode : ErrCode
  /-- ERRINFO (R25). -/
  errInfo : Word
  /-- PENDING: none, or the one accepted command word that has not completed (R35). -/
  pending : Option Word
  /-- KEY (R27). -/
  key : Block
  /-- DIN (R28). -/
  din : Block
  /-- DOUT (R29). -/
  dout : Block
  /-- CHAIN (R30). -/
  chain : Block
  /-- KS_C (R31). -/
  ksC : KeyHalf
  /-- KS_D (R31). -/
  ksD : KeyHalf
  /-- SK (R32). -/
  sk : SubKey
  /-- HALF_L (R33). -/
  halfL : Word
  /-- HALF_R (R33). -/
  halfR : Word
  /-- RSA_BASE (R34). -/
  rsaBase : Word
  /-- RSA_EXP (R34). -/
  rsaExp : Word
  /-- RSA_MOD (R34). -/
  rsaMod : Word
  /-- RSA_RES (R34). -/
  rsaRes : Word
  /-- The MODEL's: the agents' next moves, in order (R62; log entries 2 and 3). -/
  events : List Event
  /-- The MODEL's: what the last bus access returned (log entry 6). -/
  response : Option BusResponse
  /-- The MODEL's: how many times the entropy source was drawn from (log entry 7). -/
  entropyDraws : Nat
  /-- The MODEL's: how many busy reads returned an arbitrary value (log entry 8). -/
  busyReads : Nat
deriving DecidableEq, Repr

/-- The machine right after reset (R290, R292): every register 0, PENDING none. The model's own
fields start empty (log entries 2, 6, 7 and 8). -/
def State.reset : State where
  ieDone := false
  ieErr := false
  done := false
  err := false
  errCode := .none
  errInfo := 0#32
  pending := .none
  key := 0#64
  din := 0#64
  dout := 0#64
  chain := 0#64
  ksC := 0#28
  ksD := 0#28
  sk := 0#48
  halfL := 0#32
  halfR := 0#32
  rsaBase := 0#32
  rsaExp := 0#32
  rsaMod := 0#32
  rsaRes := 0#32
  events := []
  response := .none
  entropyDraws := 0
  busyReads := 0

end Sys2Proof.Machine
end

