-- ==== Sys2Proof/Machine/Flags.lean ====
section
/-!
DEFINITION. The fields of STATUS and CTRL as words, and the interrupt output (10_state.md R23, R24,
R35, R36; 60_exceptions.md R265, R270).
-/
namespace Sys2Proof.Machine

/-- The value of an error code in `STATUS.ERRCODE` (R265). -/
def ErrCode.bits : ErrCode → BitVec 4
  | .none => 0#4
  | .illegalCmd => 1#4
  | .badOperand => 2#4
  | .cmdWhileBusy => 3#4
  | .writeWhileBusy => 4#4
  | .modZero => 5#4

/-- "`STATUS.BUSY = 1` exactly when `PENDING ≠ none`" (R35). -/
def State.busy (s : State) : Bool := s.pending.isSome

/-- The STATUS word: BUSY bit 0, DONE bit 1, ERR bit 2, ERRCODE bits 11:8, the others 0 (R24). -/
def State.statusWord (s : State) : Word :=
  0#20 ++ s.errCode.bits ++ 0#5 ++ BitVec.ofBool s.err ++ BitVec.ofBool s.done ++
    BitVec.ofBool s.busy

/-- The CTRL word: IE_DONE bit 0, IE_ERR bit 1, the others 0 (R23). -/
def State.ctrlWord (s : State) : Word :=
  0#30 ++ BitVec.ofBool s.ieErr ++ BitVec.ofBool s.ieDone

/-- The interrupt output: `IRQ = (STATUS.DONE and CTRL.IE_DONE) or (STATUS.ERR and CTRL.IE_ERR)`
(R36, R270). -/
def State.irq (s : State) : Bool := (s.done && s.ieDone) || (s.err && s.ieErr)

end Sys2Proof.Machine
end

