-- ==== Sys2Proof/Machine/Bits.lean ====
section
/-!
DEFINITION. Bit strings as the spec notates them: positions, permutations, rotations, halves and
bytes (00_scope.md R7 to R11).
-/
namespace Sys2Proof.Machine

/-- `pos_w(v, k) = v[w-k]`: position 1 is the most significant bit (R8). -/
def pos {w : Nat} (v : BitVec w) (k : Nat) : Bool := v.getLsbD (w - k)

/-- `Permute(T, v, w)`: the value whose position k is position `T[k]` of v (R9). `m` is the table's
length M. -/
def permute {w : Nat} (T : List Nat) (v : BitVec w) (m : Nat) : BitVec m :=
  (BitVec.ofBoolListBE (T.map (pos v))).setWidth m

/-- `rotl28(x, n) = ((x << n) | (x >> (28-n)))[27:0]` (R10). -/
def rotl28 (x : KeyHalf) (n : Nat) : KeyHalf := (x <<< n) ||| (x >>> (28 - n))

/-- `rotr28(x, n) = ((x >> n) | (x << (28-n)))[27:0]` (R10). -/
def rotr28 (x : KeyHalf) (n : Nat) : KeyHalf := (x >>> n) ||| (x <<< (28 - n))

/-- `v[63:32]`, the `_HI` word of a 64-bit register (R53), the left half of a block (R150). -/
def hi32 (v : Block) : Word := v.extractLsb' 32 32

/-- `v[31:0]`, the `_LO` word of a 64-bit register (R53), the right half of a block (R150). -/
def lo32 (v : Block) : Word := v.extractLsb' 0 32

/-- `byte_k(v) = v[63-8k : 56-8k]`, byte 0 first on the wire (R11). -/
def byteOf (v : Block) (k : Nat) : Byte := v.extractLsb' (56 - 8 * k) 8

/-- `block(b0..b7) = b0 ++ b1 ++ ... ++ b7` (R11). -/
def blockOf (b : Nat → Byte) : Block :=
  b 0 ++ b 1 ++ b 2 ++ b 3 ++ b 4 ++ b 5 ++ b 6 ++ b 7

end Sys2Proof.Machine
end

