-- ==== Sys2Proof/Machine/Cipher.lean ====
section
/-!
DEFINITION. The Feistel unit's functions over any `DesTables` instance: the table functions
(00_scope.md R14), the S-box lookup (R118), the round function (43_feistel.md R140), the key step
(44_key_schedule.md R171) and the block procedure (R150).
-/
namespace Sys2Proof.Machine

/-- `IPf(x) = Permute(IP, x, 64)` (R14). -/
def ipf (T : DesTables) (x : Block) : Block := permute T.ip x 64

/-- `FPf(x) = Permute(FP, x, 64)` (R14). -/
def fpf (T : DesTables) (x : Block) : Block := permute T.fp x 64

/-- `Ef(r) = Permute(E, r, 32)`, 48 bits (R14). -/
def ef (T : DesTables) (r : Word) : SubKey := permute T.e r 48

/-- `Pf(y) = Permute(P, y, 32)` (R14). -/
def pf (T : DesTables) (y : Word) : Word := permute T.p y 32

/-- `PC1f(k) = Permute(PC1, k, 64)`, 56 bits (R14). -/
def pc1f (T : DesTables) (k : Block) : BitVec 56 := permute T.pc1 k 56

/-- `PC2f(cd) = Permute(PC2, cd, 56)`, 48 bits (R14). -/
def pc2f (T : DesTables) (cd : BitVec 56) : SubKey := permute T.pc2 cd 48

/-- The row `x6[5] ++ x6[0]` of an S-box lookup (R118). -/
def sboxRow (x : BitVec 6) : Nat := (x.extractLsb' 5 1 ++ x.extractLsb' 0 1).toNat

/-- The column `x6[4:1]` of an S-box lookup (R118). -/
def sboxCol (x : BitVec 6) : Nat := (x.extractLsb' 1 4).toNat

/-- `SBox(n, x6) = Sn[row][col]` (R118). Off the table's shape, which no valid table allows, the
entry read is 0 (log entry 16). -/
def sboxLookup (T : DesTables) (n : Nat) (x : BitVec 6) : BitVec 4 :=
  BitVec.ofNat 4 (((T.sbox.getD n []).getD (sboxRow x) []).getD (sboxCol x) 0)

/-- `y_j <- SBox(j, c_j)` with `c_j <- X[47-6j : 42-6j]`, the j-th chunk from the left (R140). -/
def sboxChunk (T : DesTables) (X : SubKey) (j : Nat) : BitVec 4 :=
  sboxLookup T j (X.extractLsb' (42 - 6 * j) 6)

/-- `Y <- y_0 ++ y_1 ++ ... ++ y_7` (R140). -/
def substitute (T : DesTables) (X : SubKey) : Word :=
  sboxChunk T X 0 ++ sboxChunk T X 1 ++ sboxChunk T X 2 ++ sboxChunk T X 3 ++
    sboxChunk T X 4 ++ sboxChunk T X 5 ++ sboxChunk T X 6 ++ sboxChunk T X 7

/-- The round function `F(r, k)` (R140). -/
def roundF (T : DesTables) (r : Word) (k : SubKey) : Word :=
  pf T (substitute T (ef T r ^^^ k))

/-- The direction of a key schedule or of the block procedure (R150, R171). -/
inductive Dir where
  | enc
  | dec
deriving DecidableEq, Repr

/-- The registers the block procedure writes (R150): HALF_L, HALF_R, KS_C, KS_D, SK. -/
structure Datapath where
  /-- HALF_L. -/
  halfL : Word
  /-- HALF_R. -/
  halfR : Word
  /-- KS_C. -/
  ksC : KeyHalf
  /-- KS_D. -/
  ksD : KeyHalf
  /-- SK. -/
  sk : SubKey
deriving DecidableEq, Repr

/-- The C half of PC1f(KEY): `cd[55:28]` (R171). -/
def keyHalfC (T : DesTables) (key : Block) : KeyHalf := (pc1f T key).extractLsb' 28 28

/-- The D half of PC1f(KEY): `cd[27:0]` (R171). -/
def keyHalfD (T : DesTables) (key : Block) : KeyHalf := (pc1f T key).extractLsb' 0 28

/-- What a key step does to one 28-bit half: rotate left by `SHIFT[i]` (enc), right by `SHIFT[i]`
(dec), but not at all in decryption round 0 (R171). -/
def rotateHalf (dir : Dir) (i : Nat) (x : KeyHalf) : KeyHalf :=
  match dir with
  | .enc => rotl28 x (shiftAmount i)
  | .dec => if i = 0 then x else rotr28 x (shiftAmount i)

/-- `KeyStep(i, dir)` (R171): at i = 0 the halves are reloaded from KEY; both are rotated; SK is
PC2f of the two. -/
def keyStep (T : DesTables) (key : Block) (dir : Dir) (i : Nat) (p : Datapath) : Datapath :=
  let c := rotateHalf dir i (if i = 0 then keyHalfC T key else p.ksC)
  let d := rotateHalf dir i (if i = 0 then keyHalfD T key else p.ksD)
  { p with ksC := c, ksD := d, sk := pc2f T (c ++ d) }

/-- One Feistel round: `(HALF_L, HALF_R) <- (HALF_R, HALF_L xor F(HALF_R, SK))` (R143, R150). -/
def feistelRound (T : DesTables) (p : Datapath) : Datapath :=
  { p with halfL := p.halfR, halfR := p.halfL ^^^ roundF T p.halfR p.sk }

/-- Initial permutation and split: `(HALF_L, HALF_R) <- (y[63:32], y[31:0])`, `y = IPf(x)` (R142,
R150). -/
def loadHalves (T : DesTables) (x : Block) (p : Datapath) : Datapath :=
  { p with halfL := hi32 (ipf T x), halfR := lo32 (ipf T x) }

/-- The final swap: `(HALF_L, HALF_R) <- (HALF_R, HALF_L)` (R144, R150). -/
def swapHalves (p : Datapath) : Datapath := { p with halfL := p.halfR, halfR := p.halfL }

/-- `FPf(HALF_L ++ HALF_R)` (R144, R150). -/
def joinHalves (T : DesTables) (p : Datapath) : Block := fpf T (p.halfL ++ p.halfR)

/-- One turn of R150's loop: the key step of round i, then the round. -/
def loopTurn (T : DesTables) (key : Block) (dir : Dir) (p : Datapath) (i : Nat) : Datapath :=
  feistelRound T (keyStep T key dir i p)

/-- The datapath registers that `BlockCore(x, dir)` leaves (R150). -/
def blockDatapath (T : DesTables) (key : Block) (dir : Dir) (x : Block) (p : Datapath) : Datapath :=
  swapHalves ((List.range 16).foldl (loopTurn T key dir) (loadHalves T x p))

/-- The value that `BlockCore(x, dir)` returns (R150). -/
def blockValue (T : DesTables) (key : Block) (dir : Dir) (x : Block) (p : Datapath) : Block :=
  joinHalves T (blockDatapath T key dir x p)

/-- A datapath of zeros, to start `ENC` and `DEC` from: "The earlier contents ... do not matter"
(R145). -/
def zeroDatapath : Datapath := ⟨0#32, 0#32, 0#28, 0#28, 0#48⟩

/-- `ENC(key, x)` (R145). -/
def encryptBlock (T : DesTables) (key x : Block) : Block := blockValue T key .enc x zeroDatapath

/-- `DEC(key, x)` (R146). -/
def decryptBlock (T : DesTables) (key x : Block) : Block := blockValue T key .dec x zeroDatapath

end Sys2Proof.Machine
end

