-- ==== Sys2Proof/Machine/Operands.lean ====
section
/-!
DEFINITION. The operands of the commands: what each reads of the registers (10_state.md R28, R41) and
the datapath registers as one value (R150).
-/
namespace Sys2Proof.Machine

/-- `DIN[31:0]`, the input of EXPAND, PPERM and FFUNC (R122, R123, R141). -/
def State.din32 (s : State) : Word := s.din.extractLsb' 0 32

/-- `DIN[55:0]`, the input of PC2 (R125). -/
def State.din56 (s : State) : BitVec 56 := s.din.extractLsb' 0 56

/-- `DIN[5:0]`, the input of SBOX (R126). -/
def State.din6 (s : State) : BitVec 6 := s.din.extractLsb' 0 6

/-- The registers that the block procedure reads and writes (R150). -/
def State.datapath (s : State) : Datapath := ⟨s.halfL, s.halfR, s.ksC, s.ksD, s.sk⟩

/-- Write the registers of the block procedure (R150). -/
def State.setDatapath (s : State) (p : Datapath) : State :=
  { s with halfL := p.halfL, halfR := p.halfR, ksC := p.ksC, ksD := p.ksD, sk := p.sk }

/-- "A result narrower than 64 bits is zero-extended into `DOUT`" (R29). -/
def zext64 {w : Nat} (v : BitVec w) : Block := v.setWidth 64

end Sys2Proof.Machine
end

