-- ==== Sys2Proof/Machine/Ops.lean ====
section
/-!
DEFINITION. The shared operations on the state: recording an error and clearing it, accepting,
rejecting and completing a command, the registers a command writes, and the registers of the window
as the bus sees them.
-/
namespace Sys2Proof.Machine

/-! ### Errors (the machine's exceptions) -/

/-- `raise Error(code, info)` (R262): the first error since ERR was last clear is kept. "Nothing else
changes." NCCE "has no trap entry" (R268): this is what taking an exception is here. -/
def State.raiseError (s : State) (code : ErrCode) (info : Word) : State :=
  { s with
    err := true
    errCode := if s.err then s.errCode else code
    errInfo := if s.err then s.errInfo else info }

/-- The end of an error episode: ERR, ERRCODE and ERRINFO cleared together (R24, R56, R263, R268). -/
def State.clearError (s : State) : State :=
  { s with err := false, errCode := .none, errInfo := 0#32 }

/-- Clear STATUS.DONE (R56, R260, R261). -/
def State.clearDone (s : State) : State := { s with done := false }

/-! ### Commands -/

/-- Acceptance: `PENDING <- v; STATUS.BUSY <- 1` (R260). -/
def State.accept (s : State) (v : Word) : State := { s with pending := some v }

/-- Completion: `PENDING <- none; STATUS.BUSY <- 0; STATUS.DONE <- 1` (R266). -/
def State.complete (s : State) : State := { s with pending := none, done := true }

/-- Rejection of the command word w: `STATUS.DONE <- 0`, the error recorded, "BUSY stays 0, no data
register changes" (R260, R267). Where PENDING holds the word (a state no run reaches, log entry 14)
the word leaves it. -/
def State.reject (s : State) (code : ErrCode) (w : Word) : State :=
  State.raiseError { s with done := false, pending := none } code w

/-! ### Registers that commands write -/

/-- `DOUT <- v`. -/
def State.setDout (s : State) (v : Block) : State := { s with dout := v }

/-- `CHAIN <- v`. -/
def State.setChain (s : State) (v : Block) : State := { s with chain := v }

/-- `RSA_RES <- v`. -/
def State.setRsaRes (s : State) (v : Word) : State := { s with rsaRes := v }

/-- Every data register 0 (R101; the data registers are R15's). -/
def State.clearData (s : State) : State :=
  { s with
    key := 0#64, din := 0#64, dout := 0#64, chain := 0#64
    ksC := 0#28, ksD := 0#28, sk := 0#48, halfL := 0#32, halfR := 0#32
    rsaBase := 0#32, rsaExp := 0#32, rsaMod := 0#32, rsaRes := 0#32 }

/-- The value of the next `draw64()` (R13, R37): a free value; log entry 7. -/
def State.entropyDraw (s : State) : Block := Config.entropy s.entropyDraws

/-- One `draw64()` was made. -/
def State.noteDraw (s : State) : State := { s with entropyDraws := s.entropyDraws + 1 }

/-- `BlockCore(x, dir)` on the machine (R150), over the instance `T`: its datapath registers written. -/
def State.runBlock (s : State) (T : DesTables) (dir : Dir) (x : Block) : State :=
  s.setDatapath (blockDatapath T s.key dir x s.datapath)

/-- The value `BlockCore(x, dir)` returns on the machine (R150), over the instance `T`. -/
def State.blockResult (s : State) (T : DesTables) (dir : Dir) (x : Block) : Block :=
  blockValue T s.key dir x s.datapath

/-! ### The register window -/

/-- The data registers' offsets, 0x18 to 0x5C (R15, R51). -/
def isDataOffset (off : Nat) : Bool := decide (0x18 ≤ off) && decide (off ≤ 0x5C)

/-- The data registers a host may write: 0x18 to 0x24 and 0x30 to 0x58 (R51, R56). -/
def isWritableData (off : Nat) : Bool :=
  (decide (0x18 ≤ off) && decide (off ≤ 0x24)) || (decide (0x30 ≤ off) && decide (off ≤ 0x58))

/-- "the register at off, reserved bits as 0" (R55), by the register map R51. CMD (R26) and the
reserved offsets (R52) read 0. -/
def State.readReg (s : State) (off : Nat) : Word :=
  match off with
  | 0x00 => Config.idValue
  | 0x04 => s.ctrlWord
  | 0x08 => s.statusWord
  | 0x0C => 0#32
  | 0x10 => s.errInfo
  | 0x18 => hi32 s.key
  | 0x1C => lo32 s.key
  | 0x20 => hi32 s.din
  | 0x24 => lo32 s.din
  | 0x28 => hi32 s.dout
  | 0x2C => lo32 s.dout
  | 0x30 => hi32 s.chain
  | 0x34 => lo32 s.chain
  | 0x38 => 0#4 ++ s.ksC
  | 0x3C => 0#4 ++ s.ksD
  | 0x40 => 0#16 ++ s.sk.extractLsb' 32 16
  | 0x44 => s.sk.extractLsb' 0 32
  | 0x48 => s.halfL
  | 0x4C => s.halfR
  | 0x50 => s.rsaBase
  | 0x54 => s.rsaExp
  | 0x58 => s.rsaMod
  | 0x5C => s.rsaRes
  | _ => 0#32

/-- "the register half at off <- v masked to its used width" (R56, R51, R53), for the writable data
registers. -/
def State.writeData (s : State) (off : Nat) (v : Word) : State :=
  match off with
  | 0x18 => { s with key := v ++ lo32 s.key }
  | 0x1C => { s with key := hi32 s.key ++ v }
  | 0x20 => { s with din := v ++ lo32 s.din }
  | 0x24 => { s with din := hi32 s.din ++ v }
  | 0x30 => { s with chain := v ++ lo32 s.chain }
  | 0x34 => { s with chain := hi32 s.chain ++ v }
  | 0x38 => { s with ksC := v.extractLsb' 0 28 }
  | 0x3C => { s with ksD := v.extractLsb' 0 28 }
  | 0x40 => { s with sk := v.extractLsb' 0 16 ++ s.sk.extractLsb' 0 32 }
  | 0x44 => { s with sk := s.sk.extractLsb' 32 16 ++ v }
  | 0x48 => { s with halfL := v }
  | 0x4C => { s with halfR := v }
  | 0x50 => { s with rsaBase := v }
  | 0x54 => { s with rsaExp := v }
  | 0x58 => { s with rsaMod := v }
  | _ => s

/-- `CTRL.IE_DONE <- v[0]; CTRL.IE_ERR <- v[1]` (R56). -/
def State.writeCtrl (s : State) (v : Word) : State :=
  { s with ieDone := v.getLsbD 0, ieErr := v.getLsbD 1 }

/-- A write to STATUS: 1 to bit 1 clears DONE, 1 to bit 2 clears ERR, ERRCODE and ERRINFO (R24,
R56). -/
def State.writeStatus (s : State) (v : Word) : State :=
  let s1 := if v.getLsbD 1 then s.clearDone else s
  if v.getLsbD 2 then s1.clearError else s1

/-- What the bus answers is handed to the host (log entry 6). -/
def State.respond (s : State) (r : BusResponse) : State := { s with response := some r }

/-- One `draw32()` was made (R39). -/
def State.noteBusyRead (s : State) : State := { s with busyReads := s.busyReads + 1 }

/-- The next event of the schedule has been taken: the rest waits (log entry 2). -/
def State.schedule (s : State) (es : List Event) : State := { s with events := es }

/-- The reset action (R290): every register as `State.reset` has it. The model's own fields go on:
the schedule, the last response, and the counters of the free values, so that a draw after a reset is
a fresh one (log entry 20). -/
def State.applyReset (s : State) : State :=
  { State.reset with
    events := s.events
    response := s.response
    entropyDraws := s.entropyDraws
    busyReads := s.busyReads }

end Sys2Proof.Machine
end

