-- ==== Sys2Proof/Machine/Bus.lean ====
section
/-!
DEFINITION. The host's bus accesses (20_memory.md R50 to R56) and command submission
(60_exceptions.md R260 to R264).
-/
namespace Sys2Proof.Machine

/-- `Check(v)` (R264): the first code that applies, or NONE. Steps 1 to 3 are the decoder's refusals,
step 4 the operand ranges, step 5 the modulus. -/
def State.check (s : State) (v : Word) : ErrCode :=
  match decode v with
  | .error _ => .illegalCmd
  | .ok i =>
    if i.wellFormed then
      if i = .modexp ∧ s.rsaMod = 0#32 then .modZero else .none
    else .badOperand

/-- `Submit(v)` (R260). -/
def State.submit (s : State) (v : Word) : State :=
  if s.busy then s.raiseError .cmdWhileBusy v
  else if s.check v = .none then s.clearDone.accept v
  else s.reject (s.check v) v

/-- `BusRead(off)` for an aligned word access (R55): the word, and the state after (a busy read of a
data register uses up one `draw32()`, log entry 8; nothing else changes). -/
def State.busRead (s : State) (off : Nat) : Word × State :=
  if isDataOffset off && s.busy then (Config.busyRead s.busyReads, s.noteBusyRead)
  else (s.readReg off, s)

/-- A write to a writable data register (R56): refused with error 4 while busy. -/
def State.writeDataOrRefuse (s : State) (off : Nat) (v : Word) : State :=
  if s.busy then s.raiseError .writeWhileBusy (BitVec.ofNat 32 off) else s.writeData off v

/-- `BusWrite(off, v)` for an aligned word access (R56). -/
def State.busWrite (s : State) (off : Nat) (v : Word) : State :=
  if off = 0x04 then s.writeCtrl v
  else if off = 0x08 then s.writeStatus v
  else if off = 0x0C then s.submit v
  else if isWritableData off then s.writeDataOrRefuse off v
  else s

/-- The offset of a physical address in the register window, if it lies there (R50). -/
def windowOffset (addr : Nat) : Option Nat :=
  if Config.base ≤ addr ∧ addr < Config.base + 0x100 then some (addr - Config.base) else none

/-- "Every bus access is a 32-bit access at an offset that is a multiple of 4" (R54). -/
def wordAligned (off : Nat) (size : Size) : Bool := decide (size = .word) && decide (off % 4 = 0)

/-- A read at an offset of the window: its response, or a bus error without effect (R54, R55). -/
def State.readAt (s : State) (off : Nat) (size : Size) : State :=
  if wordAligned off size then (s.busRead off).2.respond (.data (s.busRead off).1)
  else s.respond .busError

/-- A write at an offset of the window: its effect, or a bus error without effect (R54, R56). -/
def State.writeAt (s : State) (off : Nat) (size : Size) (v : Word) : State :=
  if wordAligned off size then (s.busWrite off v).respond .written else s.respond .busError

/-- A host read at a physical address (R50, R55); outside the window NCCE is not addressed (log
entry 9). -/
def State.hostRead (s : State) (addr : Nat) (size : Size) : Host.Outcome State Fault Refusal :=
  match windowOffset addr with
  | some off => .next (s.readAt off size)
  | none => .fault .outsideWindow

/-- A host write at a physical address (R50, R56); outside the window NCCE is not addressed (log
entry 9). -/
def State.hostWrite (s : State) (addr : Nat) (size : Size) (v : Word) :
    Host.Outcome State Fault Refusal :=
  match windowOffset addr with
  | some off => .next (s.writeAt off size v)
  | none => .fault .outsideWindow

end Sys2Proof.Machine
end

