-- ==== Sys2Proof/Machine/Padding.lean ====
section
/-!
DEFINITION. The padding and pad-detection functions (45_chaining_padding.md R194, R195).
-/
namespace Sys2Proof.Machine

/-- Byte k of `Pad(x, n)`: `byte_k(x)` if k < n, else `8 - n` (R194). -/
def padByte (x : Block) (n k : Nat) : Byte := if k < n then byteOf x k else BitVec.ofNat 8 (8 - n)

/-- `Pad(x, n)` (R194). -/
def padBlock (x : Block) (n : Nat) : Block := blockOf (padByte x n)

/-- The last v bytes of the block all equal v, for v in 1..8 (R195, in the reading of
90_conflicts.md C3). -/
def endsInPadding (x : Block) (v : Nat) : Bool :=
  decide (1 ≤ v) && decide (v ≤ 8) &&
    (List.range 8).all (fun k => decide (k < 8 - v) || decide ((byteOf x k).toNat = v))

/-- `PadCount(x)` (R195). -/
def padCount (x : Block) : Nat :=
  if endsInPadding x (byteOf x 7).toNat then (byteOf x 7).toNat else 0

end Sys2Proof.Machine
end

