-- ==== Sys2Proof/Machine/Chaining.lean ====
section
/-!
DEFINITION. The chaining, IV and padding commands (45_chaining_padding.md R190 to R196).
-/
namespace Sys2Proof.Machine

/-- CBC_ENC (R190): `t <- DIN xor CHAIN; DOUT <- BlockCore(t, enc); CHAIN <- DOUT`. -/
def execCbcEncWith (T : DesTables) (s : State) : Host.Outcome State Fault Refusal :=
  .next (((s.runBlock T .enc (s.din ^^^ s.chain)).setDout
    (s.blockResult T .enc (s.din ^^^ s.chain))).setChain
    (s.blockResult T .enc (s.din ^^^ s.chain))).complete

/-- CBC_ENC on the machine that holds `tables` (R110). -/
def execCbcEnc (s : State) : Host.Outcome State Fault Refusal := execCbcEncWith tables s

/-- CBC_DEC (R191): `c <- DIN; DOUT <- BlockCore(c, dec) xor CHAIN; CHAIN <- c`, with "the value
before this command" of CHAIN. -/
def execCbcDecWith (T : DesTables) (s : State) : Host.Outcome State Fault Refusal :=
  .next (((s.runBlock T .dec s.din).setDout
    (s.blockResult T .dec s.din ^^^ s.chain)).setChain s.din).complete

/-- CBC_DEC on the machine that holds `tables` (R110). -/
def execCbcDec (s : State) : Host.Outcome State Fault Refusal := execCbcDecWith tables s

/-- IV_GEN (R192): `r <- draw64(); CHAIN <- r; DOUT <- r`; r is a free value (log entry 7). -/
def execIvGen (s : State) : Host.Outcome State Fault Refusal :=
  .next ((s.noteDraw.setChain s.entropyDraw).setDout s.entropyDraw).complete

/-- PAD n (R193): `DOUT <- Pad(DIN, n)`; BAD_OPERAND when n ≥ 8 (log entry 14). -/
def execPad (n : Byte) (s : State) : Host.Outcome State Fault Refusal :=
  if (Instr.pad n).wellFormed then
    .next (s.setDout (padBlock s.din n.toNat)).complete
  else .next (s.reject .badOperand (encode (.pad n)))

/-- UNPAD (R196): `DOUT <- zext_64(PadCount(DIN))`. -/
def execUnpad (s : State) : Host.Outcome State Fault Refusal :=
  .next (s.setDout (BitVec.ofNat 64 (padCount s.din))).complete

end Sys2Proof.Machine
end

