-- ==== Sys2Proof/Machine/Control.lean ====
section
/-!
DEFINITION. The control commands (41_control.md).
-/
namespace Sys2Proof.Machine

/-- NOP (R100): "The completion step only sets the status." -/
def execNop (s : State) : Host.Outcome State Fault Refusal := .next s.complete

/-- SRESET (R101): every data register, ERR, ERRCODE and ERRINFO to 0; CTRL unchanged; then the
common status. -/
def execSreset (s : State) : Host.Outcome State Fault Refusal :=
  .next s.clearData.clearError.complete

end Sys2Proof.Machine
end

