-- ==== Sys2Proof/Machine/Feistel.lean ====
section
/-!
DEFINITION. The Feistel datapath commands (43_feistel.md R141 to R148).
-/
namespace Sys2Proof.Machine

/-- FFUNC (R141): `DOUT <- zext_64(F(DIN[31:0], SK))`. -/
def execFfuncWith (T : DesTables) (s : State) : Host.Outcome State Fault Refusal :=
  .next (s.setDout (zext64 (roundF T s.din32 s.sk))).complete

/-- FFUNC on the machine that holds `tables` (R110). -/
def execFfunc (s : State) : Host.Outcome State Fault Refusal := execFfuncWith tables s

/-- BLK_LOAD (R142): `y <- IPf(DIN); (HALF_L, HALF_R) <- (y[63:32], y[31:0])`. -/
def execBlkLoadWith (T : DesTables) (s : State) : Host.Outcome State Fault Refusal :=
  .next (s.setDatapath (loadHalves T s.din s.datapath)).complete

/-- BLK_LOAD on the machine that holds `tables` (R110). -/
def execBlkLoad (s : State) : Host.Outcome State Fault Refusal := execBlkLoadWith tables s

/-- ROUND (R143): `(HALF_L, HALF_R) <- (HALF_R, HALF_L xor F(HALF_R, SK))`. -/
def execRoundWith (T : DesTables) (s : State) : Host.Outcome State Fault Refusal :=
  .next (s.setDatapath (feistelRound T s.datapath)).complete

/-- ROUND on the machine that holds `tables` (R110). -/
def execRound (s : State) : Host.Outcome State Fault Refusal := execRoundWith tables s

/-- BLK_STORE (R144): the halves swapped, then `DOUT <- FPf(HALF_L ++ HALF_R)` of the swapped
values. -/
def execBlkStoreWith (T : DesTables) (s : State) : Host.Outcome State Fault Refusal :=
  .next ((s.setDatapath (swapHalves s.datapath)).setDout
    (joinHalves T (swapHalves s.datapath))).complete

/-- BLK_STORE on the machine that holds `tables` (R110). -/
def execBlkStore (s : State) : Host.Outcome State Fault Refusal := execBlkStoreWith tables s

/-- ENC_BLOCK (R147): `DOUT <- BlockCore(DIN, enc)`. -/
def execEncBlockWith (T : DesTables) (s : State) : Host.Outcome State Fault Refusal :=
  .next ((s.runBlock T .enc s.din).setDout (s.blockResult T .enc s.din)).complete

/-- ENC_BLOCK on the machine that holds `tables` (R110). -/
def execEncBlock (s : State) : Host.Outcome State Fault Refusal := execEncBlockWith tables s

/-- DEC_BLOCK (R148): `DOUT <- BlockCore(DIN, dec)`. -/
def execDecBlockWith (T : DesTables) (s : State) : Host.Outcome State Fault Refusal :=
  .next ((s.runBlock T .dec s.din).setDout (s.blockResult T .dec s.din)).complete

/-- DEC_BLOCK on the machine that holds `tables` (R110). -/
def execDecBlock (s : State) : Host.Outcome State Fault Refusal := execDecBlockWith tables s

end Sys2Proof.Machine
end

