-- ==== Sys2Proof/Machine/KeySchedule.lean ====
section
/-!
DEFINITION. The key-schedule commands (44_key_schedule.md R173, R174).
-/
namespace Sys2Proof.Machine

/-- KS_ENC_STEP i (R173): `KeyStep(i, enc)`; BAD_OPERAND when i ≥ 16 (log entry 14). -/
def execKsEncStepWith (T : DesTables) (i : Byte) (s : State) : Host.Outcome State Fault Refusal :=
  if (Instr.ksEncStep i).wellFormed then
    .next (s.setDatapath (keyStep T s.key .enc i.toNat s.datapath)).complete
  else .next (s.reject .badOperand (encode (.ksEncStep i)))

/-- KS_ENC_STEP on the machine that holds `tables` (R110). -/
def execKsEncStep (i : Byte) (s : State) : Host.Outcome State Fault Refusal :=
  execKsEncStepWith tables i s

/-- KS_DEC_STEP i (R174): `KeyStep(i, dec)`; BAD_OPERAND when i ≥ 16 (log entry 14). -/
def execKsDecStepWith (T : DesTables) (i : Byte) (s : State) : Host.Outcome State Fault Refusal :=
  if (Instr.ksDecStep i).wellFormed then
    .next (s.setDatapath (keyStep T s.key .dec i.toNat s.datapath)).complete
  else .next (s.reject .badOperand (encode (.ksDecStep i)))

/-- KS_DEC_STEP on the machine that holds `tables` (R110). -/
def execKsDecStep (i : Byte) (s : State) : Host.Outcome State Fault Refusal :=
  execKsDecStepWith tables i s

end Sys2Proof.Machine
end

