-- ==== Sys2Proof/Machine/ModPow.lean ====
section
/-!
DEFINITION. The modular exponentiation function (46_modexp.md R220).
-/
namespace Sys2Proof.Machine

/-- One bit of left-to-right square and multiply. -/
def squareMultiply (b m : Nat) (bit : Bool) (h : Nat) : Nat :=
  if bit then h * h % m * b % m else h * h % m

/-- `b ^ e mod m` for an exponent below `2 ^ bits`, by square and multiply: R220 lets a model
"compute the value any way it likes" (log entry 17). -/
def modPow (b m : Nat) : (bits : Nat) → (e : Nat) → Nat
  | 0, _ => 1 % m
  | bits + 1, e => squareMultiply b m (e % 2 == 1) (modPow b m bits (e / 2))

/-- `ModExp(b, e, m) = (b ^ e) mod m` on 32-bit operands, m ≥ 1 (R220). -/
def modExp (b e m : Word) : Word := BitVec.ofNat 32 (modPow b.toNat m.toNat 32 e.toNat)

end Sys2Proof.Machine
end

