-- ==== Sys2Proof/Machine/Modexp.lean ====
section
/-!
DEFINITION. The modular exponentiation command (46_modexp.md R221).
-/
namespace Sys2Proof.Machine

/-- MODEXP (R221): `RSA_RES <- ModExp(RSA_BASE, RSA_EXP, RSA_MOD)`; MOD_ZERO when `RSA_MOD = 0`, and
"`RSA_RES` keeps its value" (log entry 14). -/
def execModexp (s : State) : Host.Outcome State Fault Refusal :=
  if s.rsaMod = 0#32 then .next (s.reject .modZero (encode .modexp))
  else .next (s.setRsaRes (modExp s.rsaBase s.rsaExp s.rsaMod)).complete

end Sys2Proof.Machine
end

