-- ==== Sys2Proof/Machine/Permutation.lean ====
section
/-!
DEFINITION. The permutation and substitution commands (42_permutation_substitution.md R120 to R126).
-/
namespace Sys2Proof.Machine

/-- IP (R120): `DOUT <- IPf(DIN)`. -/
def execIpWith (T : DesTables) (s : State) : Host.Outcome State Fault Refusal :=
  .next (s.setDout (ipf T s.din)).complete

/-- IP on the machine that holds `tables` (R110). -/
def execIp (s : State) : Host.Outcome State Fault Refusal := execIpWith tables s

/-- FP (R121): `DOUT <- FPf(DIN)`. -/
def execFpWith (T : DesTables) (s : State) : Host.Outcome State Fault Refusal :=
  .next (s.setDout (fpf T s.din)).complete

/-- FP on the machine that holds `tables` (R110). -/
def execFp (s : State) : Host.Outcome State Fault Refusal := execFpWith tables s

/-- EXPAND (R122): `DOUT <- zext_64(Ef(DIN[31:0]))`. -/
def execExpandWith (T : DesTables) (s : State) : Host.Outcome State Fault Refusal :=
  .next (s.setDout (zext64 (ef T s.din32))).complete

/-- EXPAND on the machine that holds `tables` (R110). -/
def execExpand (s : State) : Host.Outcome State Fault Refusal := execExpandWith tables s

/-- PPERM (R123): `DOUT <- zext_64(Pf(DIN[31:0]))`. -/
def execPpermWith (T : DesTables) (s : State) : Host.Outcome State Fault Refusal :=
  .next (s.setDout (zext64 (pf T s.din32))).complete

/-- PPERM on the machine that holds `tables` (R110). -/
def execPperm (s : State) : Host.Outcome State Fault Refusal := execPpermWith tables s

/-- PC1 (R124): `DOUT <- zext_64(PC1f(DIN))`. -/
def execPc1With (T : DesTables) (s : State) : Host.Outcome State Fault Refusal :=
  .next (s.setDout (zext64 (pc1f T s.din))).complete

/-- PC1 on the machine that holds `tables` (R110). -/
def execPc1 (s : State) : Host.Outcome State Fault Refusal := execPc1With tables s

/-- PC2 (R125): `DOUT <- zext_64(PC2f(DIN[55:0]))`. -/
def execPc2With (T : DesTables) (s : State) : Host.Outcome State Fault Refusal :=
  .next (s.setDout (zext64 (pc2f T s.din56))).complete

/-- PC2 on the machine that holds `tables` (R110). -/
def execPc2 (s : State) : Host.Outcome State Fault Refusal := execPc2With tables s

/-- SBOX n (R126): `DOUT <- zext_64(SBox(n, DIN[5:0]))`; BAD_OPERAND when n ≥ 8, nothing else
changes (log entry 14). -/
def execSboxWith (T : DesTables) (n : Byte) (s : State) : Host.Outcome State Fault Refusal :=
  if (Instr.sbox n).wellFormed then
    .next (s.setDout (zext64 (sboxLookup T n.toNat s.din6))).complete
  else .next (s.reject .badOperand (encode (.sbox n)))

/-- SBOX on the machine that holds `tables` (R110). -/
def execSbox (n : Byte) (s : State) : Host.Outcome State Fault Refusal := execSboxWith tables n s

end Sys2Proof.Machine
end

