-- ==== Sys2Proof/Machine/Dispatch.lean ====
section
/-!
DEFINITION. One arm for each command: its completion step (60_exceptions.md R266).
-/
namespace Sys2Proof.Machine

/-- What the completion step of the command `i` does to the state in which it runs (R266). -/
def exec (i : Instr) (s : State) : Host.Outcome State Fault Refusal :=
  match i with
  | .nop => Sys2Proof.Machine.execNop s
  | .sreset => Sys2Proof.Machine.execSreset s
  | .ip => Sys2Proof.Machine.execIp s
  | .fp => Sys2Proof.Machine.execFp s
  | .expand => Sys2Proof.Machine.execExpand s
  | .pperm => Sys2Proof.Machine.execPperm s
  | .pc1 => Sys2Proof.Machine.execPc1 s
  | .pc2 => Sys2Proof.Machine.execPc2 s
  | .sbox n => Sys2Proof.Machine.execSbox n s
  | .ffunc => Sys2Proof.Machine.execFfunc s
  | .blkLoad => Sys2Proof.Machine.execBlkLoad s
  | .round => Sys2Proof.Machine.execRound s
  | .blkStore => Sys2Proof.Machine.execBlkStore s
  | .encBlock => Sys2Proof.Machine.execEncBlock s
  | .decBlock => Sys2Proof.Machine.execDecBlock s
  | .ksEncStep k => Sys2Proof.Machine.execKsEncStep k s
  | .ksDecStep k => Sys2Proof.Machine.execKsDecStep k s
  | .cbcEnc => Sys2Proof.Machine.execCbcEnc s
  | .cbcDec => Sys2Proof.Machine.execCbcDec s
  | .ivGen => Sys2Proof.Machine.execIvGen s
  | .pad n => Sys2Proof.Machine.execPad n s
  | .unpad => Sys2Proof.Machine.execUnpad s
  | .modexp => Sys2Proof.Machine.execModexp s

end Sys2Proof.Machine
end

