-- ==== Sys2Proof/Machine/Engine.lean ====
section
/-!
DEFINITION. The engine's turn (60_exceptions.md R266), and what each event of the schedule does
(10_state.md R20). Each is written once, over the commands' meanings `run`, since the machine takes
its `DesTables` as an argument (R110): with `exec` it is the machine over the default instance, with
`execWith T` (Machine/Instance.lean) the machine over `T`.
-/
namespace Sys2Proof.Machine

/-- The engine runs the word that PENDING holds (R266): the command it decodes to. A word that is no
command, which no run puts there, leaves PENDING with the rejection R264 gives it (log entry 14). -/
def runWordBy (run : Instr → State → Host.Outcome State Fault Refusal) (w : Word) (s : State) :
    Host.Outcome State Fault Refusal :=
  match decode w with
  | .ok i => run i s
  | .error _ => .next (s.reject .illegalCmd w)

/-- The engine's turn: the completion step "is enabled exactly when `PENDING ≠ none`" (R35, R266);
an engine without a pending command "is idle ... and keeps all state" (R278; log entry 4). -/
def engineTurnBy (run : Instr → State → Host.Outcome State Fault Refusal) (s : State) :
    Host.Outcome State Fault Refusal :=
  match s.pending with
  | none => .next s
  | some w => runWordBy run w s

/-- One event (R20): a host access, the engine's turn, or the reset input. -/
def handleEventBy (run : Instr → State → Host.Outcome State Fault Refusal) (e : Event) (s : State) :
    Host.Outcome State Fault Refusal :=
  match e with
  | .read addr size => s.hostRead addr size
  | .write addr size v => s.hostWrite addr size v
  | .engine => engineTurnBy run s
  | .reset => .next s.applyReset

/-- One step of the whole machine: the first event of the schedule happens; where none waits, the
engine takes its turn, since "Every accepted command completes" (R266; log entries 2 and 3). -/
def stepScheduleBy (run : Instr → State → Host.Outcome State Fault Refusal) (s : State) :
    Host.Outcome State Fault Refusal :=
  match s.events with
  | [] => engineTurnBy run s
  | e :: rest => handleEventBy run e (s.schedule rest)

/-- The engine runs a word, over the default instance. -/
def runWord (w : Word) (s : State) : Host.Outcome State Fault Refusal := runWordBy exec w s

/-- The engine's turn, over the default instance. -/
def engineTurn (s : State) : Host.Outcome State Fault Refusal := engineTurnBy exec s

/-- One event, over the default instance. -/
def handleEvent (e : Event) (s : State) : Host.Outcome State Fault Refusal := handleEventBy exec e s

/-- One step, over the default instance. -/
def stepSchedule (s : State) : Host.Outcome State Fault Refusal := stepScheduleBy exec s

/-- Place the word `w` as the accepted command that the next step completes (log entry 5): PENDING
holds it and the engine's turn is first in the schedule. -/
def State.placeWord (s : State) (w : Word) : State :=
  { s with pending := some w, events := .engine :: s.events }

end Sys2Proof.Machine
end

