-- ==== Sys2Proof/Machine/Step.lean ====
section
/-!
DEFINITION. One step of the machine, and how the host places a command for the next step.
-/
namespace Sys2Proof.Machine

/-- One step: the next event of the schedule (R20, R62). -/
def step (s : State) : Host.Outcome State Fault Refusal := stepSchedule s

/-- The state in which the very next step runs the command of `w`'s low `nbits` bits (log entry 5). -/
def State.withFetchWord (s : State) (nbits w : Nat) : State :=
  s.placeWord (BitVec.ofNat 32 (w % 2 ^ nbits))

end Sys2Proof.Machine
end

