-- ==== Sys2Proof/Machine/Assembler.lean ====
section
/-!
DEFINITION. The assembler syntax of one command (30_encoding.md R87): `MNEMONIC` or `MNEMONIC imm`.
-/
namespace Sys2Proof.Machine

/-- Why a line is no command. -/
inductive AsmError where
  /-- The line is not one or two words (log entry 23). -/
  | malformedLine
  /-- No mnemonic of R83 takes this many words (log entry 23). -/
  | unknownMnemonic
  /-- The operand is no decimal number and no `0x` hexadecimal number. -/
  | badNumber
  /-- "The assembler rejects an `imm` outside 0..255." -/
  | operandTooLarge
deriving DecidableEq, Repr

/-- The mnemonics without an operand (R83, R87). -/
def plainMnemonics : List (String × Instr) :=
  [("NOP", .nop), ("SRESET", .sreset), ("IP", .ip), ("FP", .fp), ("EXPAND", .expand),
   ("PPERM", .pperm), ("PC1", .pc1), ("PC2", .pc2), ("FFUNC", .ffunc), ("BLK_LOAD", .blkLoad),
   ("ROUND", .round), ("BLK_STORE", .blkStore), ("ENC_BLOCK", .encBlock),
   ("DEC_BLOCK", .decBlock), ("CBC_ENC", .cbcEnc), ("CBC_DEC", .cbcDec), ("IV_GEN", .ivGen),
   ("UNPAD", .unpad), ("MODEXP", .modexp)]

/-- The mnemonics with an operand (R82, R87). -/
def operandMnemonics : List (String × (Byte → Instr)) :=
  [("SBOX", .sbox), ("KS_ENC_STEP", .ksEncStep), ("KS_DEC_STEP", .ksDecStep), ("PAD", .pad)]

/-- The entry of a name in a list of mnemonics. -/
def findMnemonic {α : Type} (name : List Char) : List (String × α) → Option α
  | [] => none
  | (m, a) :: rest => if m.toList = name then some a else findMnemonic name rest

/-- The words of a line: runs of characters between spaces (log entry 23). -/
def wordsOfLine : List Char → List (List Char)
  | [] => [[]]
  | c :: cs =>
    if c = ' ' then [] :: wordsOfLine cs
    else
      match wordsOfLine cs with
      | [] => [[c]]
      | w :: ws => (c :: w) :: ws

/-- A digit's value in base 10 or 16. -/
def digitValue (base : Nat) (c : Char) : Option Nat :=
  let d :=
    if 48 ≤ c.toNat ∧ c.toNat ≤ 57 then c.toNat - 48
    else if 65 ≤ c.toNat ∧ c.toNat ≤ 70 then c.toNat - 55
    else if 97 ≤ c.toNat ∧ c.toNat ≤ 102 then c.toNat - 87
    else base
  if d < base then some d else none

/-- The value of a run of digits, the accumulator holding the digits before it. -/
def digitsValue (base : Nat) : (acc : Nat) → List Char → Option Nat
  | acc, [] => some acc
  | acc, c :: cs =>
    match digitValue base c with
    | none => none
    | some d => digitsValue base (base * acc + d) cs

/-- "a decimal number or a `0x` hexadecimal number" (R87). -/
def parseNumber : List Char → Option Nat
  | '0' :: 'x' :: c :: cs => digitsValue 16 0 (c :: cs)
  | c :: cs => digitsValue 10 0 (c :: cs)
  | [] => none

/-- A command with an operand: a value in 0..255 goes into IMM8 unchanged (R87). -/
def assembleOperand (make : Byte → Instr) (text : List Char) : Except AsmError Word :=
  match parseNumber text with
  | none => .error .badNumber
  | some n =>
    if n < 256 then .ok (encode (make (BitVec.ofNat 8 n))) else .error .operandTooLarge

/-- The command word of one line of assembler (R87). -/
def assemble (line : String) : Except AsmError Word :=
  match (wordsOfLine line.toList).filter (fun w => decide (w ≠ [])) with
  | [m] =>
    match findMnemonic m plainMnemonics with
    | some i => .ok (encode i)
    | none => .error .unknownMnemonic
  | [m, n] =>
    match findMnemonic m operandMnemonics with
    | some make => assembleOperand make n
    | none => .error .unknownMnemonic
  | _ => .error .malformedLine

end Sys2Proof.Machine
end

