-- ==== Sys2Proof/Machine/Message.lean ====
section
/-!
DEFINITION. The message functions of 47_message_level.md (R230, R233, R238 to R240), as pure
functions over byte strings.
-/
namespace Sys2Proof.Machine

/-- How a host procedure fails (R233, R239; log entry 22). -/
inductive HostError where
  /-- MalformedInput: no plaintext is returned (R233, R239). -/
  | malformedInput
  /-- A command failed: the ERRCODE read from STATUS where the host requires `ERR = 0` (R231), or the
  code of a MODEXP that was rejected (R238; log entry 22). -/
  | commandError (code : BitVec 4)
  /-- A bus access was not answered as a word access is. -/
  | busError
  /-- ID did not read 0x4E434345 (R294 step 1). The model's choice: the spec does not say what the host
  does then (log entry 26). -/
  | wrongDevice
  /-- InvalidArgument: an unknown method tag (R241). -/
  | invalidArgument
deriving DecidableEq, Repr

/-- `bytes(v)`: the 8 bytes `byte_0(v)..byte_7(v)` (47's notation, R11). -/
def bytesOf (v : Block) : List Byte := (List.range 8).map (byteOf v)

/-- `block(s)` of a string of 8 bytes (R11). -/
def blockOfBytes (s : List Byte) : Block := blockOf (fun k => s.getD k 0#8)

/-- The j-th run of at most 8 bytes, j from 0: `P[8j .. min(8j+8, |P|))` (R230). -/
def msgSegment (P : List Byte) (j : Nat) : List Byte := (P.drop (8 * j)).take 8

/-- `ceil(|P| / 8)` (R230). -/
def segmentCount (P : List Byte) : Nat := (P.length + 7) / 8

/-- The runs `s_1 .. s_m` of R230. -/
def segments (P : List Byte) : List (List Byte) := (List.range (segmentCount P)).map (msgSegment P)

/-- `block(s ++ 0^(8-n))`: a short run filled with zero bytes (R230). -/
def zeroFilled (seg : List Byte) : Block :=
  blockOfBytes (seg ++ List.replicate (8 - seg.length) 0#8)

/-- `X_j` of R230: a full run as it stands, a short one padded. -/
def messageBlock (seg : List Byte) : Block :=
  if seg.length = 8 then blockOfBytes seg else padBlock (zeroFilled seg) seg.length

/-- `C_j <- ENC(K, X_j xor C_(j-1))` (R230). -/
def cbcEncryptBlocks (T : DesTables) (K : Block) : (prev : Block) → List Block → List Block
  | _, [] => []
  | prev, x :: xs =>
    encryptBlock T K (x ^^^ prev) :: cbcEncryptBlocks T K (encryptBlock T K (x ^^^ prev)) xs

/-- The ciphertext blocks `C_1 .. C_m` of R230, from `C_0 = r`. -/
def cipherBlocks (T : DesTables) (K : Block) (P : List Byte) (r : Block) : List Block :=
  cbcEncryptBlocks T K r ((segments P).map messageBlock)

/-- `MsgEncrypt(K, P, r)` (R230). -/
def msgEncrypt (T : DesTables) (K : Block) (P : List Byte) (r : Block) : List Byte :=
  bytesOf r ++ (cipherBlocks T K P r).flatMap bytesOf

/-- `X_j <- DEC(K, C_j) xor C_(j-1)` (R233). -/
def cbcDecryptBlocks (T : DesTables) (K : Block) : (prev : Block) → List Block → List Block
  | _, [] => []
  | prev, c :: cs => (decryptBlock T K c ^^^ prev) :: cbcDecryptBlocks T K c cs

/-- `bytes(X_1) ++ ... ++ bytes(X_(m-1)) ++ bytes(X_m)[0 .. 8-k)` with `k = PadCount(X_m)` (R233). -/
def stripLast : List Block → List Byte
  | [] => []
  | [x] => (bytesOf x).take (8 - padCount x)
  | x :: y :: rest => bytesOf x ++ stripLast (y :: rest)

/-- "if |C| < 8: fail", "if |C| mod 8 != 0: fail" (R233, D33). -/
def malformedCipher (C : List Byte) : Bool := decide (C.length < 8) || decide (C.length % 8 ≠ 0)

/-- `MsgDecrypt(K, C)` (R233); a ciphertext of the IV alone is the empty message (D34). -/
def msgDecrypt (T : DesTables) (K : Block) (C : List Byte) : Except HostError (List Byte) :=
  if malformedCipher C then .error .malformedInput
  else .ok (stripLast (cbcDecryptBlocks T K (blockOfBytes (msgSegment C 0))
    ((segments C).tail.map blockOfBytes)))

/-- `be32`: 4 bytes, most significant first (R238, R240). -/
def be32 (w : Word) : List Byte :=
  [w.extractLsb' 24 8, w.extractLsb' 16 8, w.extractLsb' 8 8, w.extractLsb' 0 8]

/-- The big-endian 32-bit value of 4 bytes (R239, R240). -/
def wordOfBytes (s : List Byte) : Word :=
  s.getD 0 0#8 ++ s.getD 1 0#8 ++ s.getD 2 0#8 ++ s.getD 3 0#8

/-- What an RSA text procedure answers when a MODEXP fails with MOD_ZERO, code 5, as every one does with
modulus 0 (R238, R221). That the procedure then fails is the model's choice (log entry 22). -/
def modulusError : HostError := .commandError 5#4

/-- `RsaEncrypt(e, n, U)` on 16-bit character codes (R238, D32), defined there for n ≥ 1. With n = 0
"every MODEXP" fails (R238), and the model's text with it (log entry 22). -/
def rsaEncrypt (e n : Word) (U : List (BitVec 16)) : Except HostError (List Byte) :=
  if n = 0#32 ∧ U ≠ [] then .error modulusError
  else .ok (U.flatMap (fun u => be32 (modExp (u.setWidth 32) e n)))

/-- `B[4(t-1) .. 4t)` as words, t from 1 (R239). -/
def rsaWords (B : List Byte) : List Word :=
  (List.range (B.length / 4)).map (fun t => wordOfBytes ((B.drop (4 * t)).take 4))

/-- A decrypted value as a 16-bit code unit: `u_t >= 2^16` is MalformedInput (R239, D32). -/
def codeUnit (u : Word) : Except HostError (BitVec 16) :=
  if u.toNat < 2 ^ 16 then .ok (u.setWidth 16) else .error .malformedInput

/-- The loop of R239 over the words. -/
def rsaDecryptWords (d n : Word) : List Word → Except HostError (List (BitVec 16))
  | [] => .ok []
  | w :: ws =>
    match codeUnit (modExp w d n) with
    | .error e => .error e
    | .ok u =>
      match rsaDecryptWords d n ws with
      | .error e => .error e
      | .ok us => .ok (u :: us)

/-- `RsaDecrypt(d, n, B)` (R239). With n = 0 the first MODEXP fails, as in R238 (log entry 22). -/
def rsaDecrypt (d n : Word) (B : List Byte) : Except HostError (List (BitVec 16)) :=
  if B.length % 4 ≠ 0 then .error .malformedInput
  else if n = 0#32 ∧ B ≠ [] then .error modulusError
  else rsaDecryptWords d n (rsaWords B)

end Sys2Proof.Machine
end

