-- ==== Sys2Proof/Machine/HostProc.lean ====
section
/-!
DEFINITION. The host's side: the pseudo-operations of 30_encoding.md R88, and the host procedures of
47_message_level.md (R231, R234, R238, R239) and of the boot order (R294), run on the machine through
`step`. `polls` says how many STATUS reads come before the engine's turn: the open LATENCY (log
entries 21 and 22).
-/
namespace Sys2Proof.Machine

/-- The machine with one more event at the head of its schedule. -/
def State.push (s : State) (e : Event) : State := s.schedule (e :: s.events)

/-- `wr OFF, V` is `BusWrite(OFF, V)` (R88). -/
def wr (off : Nat) (v : Word) (s : State) : Except HostError State :=
  match step (s.push (.write (Config.base + off) .word v)) with
  | .next t => if t.response = some .written then .ok t else .error .busError
  | .fault _ => .error .busError
  | .refused _ => .error .busError

/-- `rd OFF` is `BusRead(OFF)` (R88): the word read. -/
def rd (off : Nat) (s : State) : Except HostError (Word × State) :=
  match step (s.push (.read (Config.base + off) .word)) with
  | .next t =>
    match t.response with
    | some (.data v) => .ok (v, t)
    | some .written => .error .busError
    | some .busError => .error .busError
    | none => .error .busError
  | .fault _ => .error .busError
  | .refused _ => .error .busError

/-- The engine gets its turn between two host accesses (R62). -/
def letEngineRun (s : State) : Except HostError State :=
  match step (s.push .engine) with
  | .next t => .ok t
  | .fault _ => .error .busError
  | .refused _ => .error .busError

/-- `cmd MNEMONIC [imm]` is `wr 0x0C, word` (R88). -/
def cmd (i : Instr) (s : State) : Except HostError State := wr 0x0C (encode i) s

/-- `wr64 REG, V` is `wr REG_HI, V[63:32]` followed by `wr REG_LO, V[31:0]` (R88); `reg` is the offset
of REG_HI. -/
def wr64 (reg : Nat) (v : Block) (s : State) : Except HostError State :=
  match wr reg (hi32 v) s with
  | .error e => .error e
  | .ok s1 => wr (reg + 4) (lo32 v) s1

/-- `rd64 REG` (R88). -/
def rd64 (reg : Nat) (s : State) : Except HostError (Block × State) :=
  match rd reg s with
  | .error e => .error e
  | .ok (h, s1) =>
    match rd (reg + 4) s1 with
    | .error e => .error e
    | .ok (l, s2) => .ok (h ++ l, s2)

/-- `wait` "repeats `rd 0x08` until bit 0 of the value read is 0" (R88). The engine's turn comes after
`polls` reads; the read after it ends the wait. -/
def wait : (polls : Nat) → State → Except HostError State
  | 0, s =>
    match letEngineRun s with
    | .error e => .error e
    | .ok s1 =>
      match rd 0x08 s1 with
      | .error e => .error e
      | .ok (v, s2) => if v.getLsbD 0 then .error .busError else .ok s2
  | polls + 1, s =>
    match rd 0x08 s with
    | .error e => .error e
    | .ok (v, s1) => if v.getLsbD 0 then wait polls s1 else .ok s1

/-- `run MNEMONIC [imm]` is `cmd MNEMONIC [imm]` followed by `wait` (R88). -/
def run (polls : Nat) (i : Instr) (s : State) : Except HostError State :=
  match cmd i s with
  | .error e => .error e
  | .ok s1 => wait polls s1

/-- "After each `run` the host reads `STATUS` and requires `ERR = 0`" (R231). -/
def runChecked (polls : Nat) (i : Instr) (s : State) : Except HostError State :=
  match run polls i s with
  | .error e => .error e
  | .ok s1 =>
    match rd 0x08 s1 with
    | .error e => .error e
    | .ok (v, s2) => if v.getLsbD 2 then .error (.commandError (v.extractLsb' 8 4)) else .ok s2

/-! ### DES-like messages -/

/-- R231's preparation of block j: the block goes to DIN, a short one through `PAD n_j`. -/
def hostLoadSegment (polls : Nat) (seg : List Byte) (s : State) : Except HostError State :=
  if seg.length = 8 then wr64 0x20 (blockOfBytes seg) s
  else
    match wr64 0x20 (zeroFilled seg) s with
    | .error e => .error e
    | .ok s1 =>
      match runChecked polls (.pad (BitVec.ofNat 8 seg.length)) s1 with
      | .error e => .error e
      | .ok s2 =>
        match rd64 0x28 s2 with
        | .error e => .error e
        | .ok (x, s3) => wr64 0x20 x s3

/-- The loop of R231: the runs of the message, j from 1; `polls` gives each command its latency. -/
def hostEncryptLoop (polls : Nat → Nat) :
    (j : Nat) → List (List Byte) → State → Except HostError (List Byte × State)
  | _, [], s => .ok ([], s)
  | j, seg :: more, s =>
    match hostLoadSegment (polls (2 * j)) seg s with
    | .error e => .error e
    | .ok s1 =>
      match runChecked (polls (2 * j + 1)) .cbcEnc s1 with
      | .error e => .error e
      | .ok s2 =>
        match rd64 0x28 s2 with
        | .error e => .error e
        | .ok (c, s3) =>
          match hostEncryptLoop polls (j + 1) more s3 with
          | .error e => .error e
          | .ok (rest, s4) => .ok (bytesOf c ++ rest, s4)

/-- The host procedure for `MsgEncrypt` (R231): the bytes emitted. -/
def hostMsgEncrypt (polls : Nat → Nat) (K : Block) (P : List Byte) (s : State) :
    Except HostError (List Byte × State) :=
  match wr64 0x18 K s with
  | .error e => .error e
  | .ok s1 =>
    match runChecked (polls 0) .ivGen s1 with
    | .error e => .error e
    | .ok s2 =>
      match rd64 0x28 s2 with
      | .error e => .error e
      | .ok (c, s3) =>
        match hostEncryptLoop polls 1 (segments P) s3 with
        | .error e => .error e
        | .ok (rest, s4) => .ok (bytesOf c ++ rest, s4)

/-- R234's end of the last block: `UNPAD`, the count read from DOUT_LO, the bytes kept. -/
def hostEmitLast (polls : Nat) (x : Block) (s : State) : Except HostError (List Byte × State) :=
  match wr64 0x20 x s with
  | .error e => .error e
  | .ok s1 =>
    match run polls .unpad s1 with
    | .error e => .error e
    | .ok s2 =>
      match rd 0x2C s2 with
      | .error e => .error e
      | .ok (k, s3) => .ok ((bytesOf x).take (8 - k.toNat), s3)

/-- `wr64 DIN, C_j; run CBC_DEC; rd64 DOUT -> X_j` (R234). -/
def hostDecryptBlock (polls : Nat) (c : Block) (s : State) : Except HostError (Block × State) :=
  match wr64 0x20 c s with
  | .error e => .error e
  | .ok s1 =>
    match run polls .cbcDec s1 with
    | .error e => .error e
    | .ok s2 => rd64 0x28 s2

/-- The loop of R234, j from 1: "if j < m: emit bytes(X_j)", else the last block. -/
def hostDecryptLoop (polls : Nat → Nat) :
    (j : Nat) → List Block → State → Except HostError (List Byte × State)
  | _, [], s => .ok ([], s)
  | j, c :: more, s =>
    match hostDecryptBlock (polls (2 * j)) c s with
    | .error e => .error e
    | .ok (x, s1) =>
      if more = [] then hostEmitLast (polls (2 * j + 1)) x s1
      else
        match hostDecryptLoop polls (j + 1) more s1 with
        | .error e => .error e
        | .ok (rest, s2) => .ok (bytesOf x ++ rest, s2)

/-- The host procedure for `MsgDecrypt` (R234). -/
def hostMsgDecrypt (polls : Nat → Nat) (K : Block) (C : List Byte) (s : State) :
    Except HostError (List Byte × State) :=
  if malformedCipher C then .error .malformedInput
  else
    match wr64 0x18 K s with
    | .error e => .error e
    | .ok s1 =>
      match wr64 0x30 (blockOfBytes (msgSegment C 0)) s1 with
      | .error e => .error e
      | .ok s2 => hostDecryptLoop polls 1 ((segments C).tail.map blockOfBytes) s2

/-! ### RSA-style text -/

/-- `wr RSA_EXP, e; wr RSA_MOD, n` (R238). -/
def hostLoadRsa (e n : Word) (s : State) : Except HostError State :=
  match wr 0x54 e s with
  | .error x => .error x
  | .ok s1 => wr 0x58 n s1

/-- `run MODEXP`, and whether it was rejected: "`BUSY = 0, DONE = 0` means rejected" (R261), whatever
error stands recorded from before. MOD_ZERO is the one code an idle MODEXP can be rejected with (R221,
R264). That the host looks, and then stops, is the model's choice (log entry 22). -/
def runModexp (polls : Nat) (s : State) : Except HostError State :=
  match run polls .modexp s with
  | .error e => .error e
  | .ok s1 =>
    match rd 0x08 s1 with
    | .error e => .error e
    | .ok (v, s2) => if v.getLsbD 1 then .ok s2 else .error modulusError

/-- `wr RSA_BASE, u; run MODEXP; rd RSA_RES` (R238). An error recorded before does not matter: "Accepted
commands are not blocked while `ERR = 1`" (R262). -/
def hostModexp (polls : Nat) (u : Word) (s : State) : Except HostError (Word × State) :=
  match wr 0x50 u s with
  | .error e => .error e
  | .ok s1 =>
    match runModexp polls s1 with
    | .error e => .error e
    | .ok s2 => rd 0x5C s2

/-- The loop of R238. -/
def hostRsaEncryptLoop (polls : Nat → Nat) :
    (t : Nat) → List (BitVec 16) → State → Except HostError (List Byte × State)
  | _, [], s => .ok ([], s)
  | t, u :: more, s =>
    match hostModexp (polls t) (u.setWidth 32) s with
    | .error e => .error e
    | .ok (w, s1) =>
      match hostRsaEncryptLoop polls (t + 1) more s1 with
      | .error e => .error e
      | .ok (rest, s2) => .ok (be32 w ++ rest, s2)

/-- The host procedure for `RsaEncrypt` (R238). -/
def hostRsaEncrypt (polls : Nat → Nat) (e n : Word) (U : List (BitVec 16)) (s : State) :
    Except HostError (List Byte × State) :=
  match hostLoadRsa e n s with
  | .error x => .error x
  | .ok s1 => hostRsaEncryptLoop polls 0 U s1

/-- The loop of R239 on the machine. -/
def hostRsaDecryptLoop (polls : Nat → Nat) :
    (t : Nat) → List Word → State → Except HostError (List (BitVec 16) × State)
  | _, [], s => .ok ([], s)
  | t, w :: more, s =>
    match hostModexp (polls t) w s with
    | .error e => .error e
    | .ok (x, s1) =>
      match codeUnit x with
      | .error e => .error e
      | .ok u =>
        match hostRsaDecryptLoop polls (t + 1) more s1 with
        | .error e => .error e
        | .ok (us, s2) => .ok (u :: us, s2)

/-- `RsaDecrypt` on the machine (R239; log entry 22). -/
def hostRsaDecrypt (polls : Nat → Nat) (d n : Word) (B : List Byte) (s : State) :
    Except HostError (List (BitVec 16) × State) :=
  if B.length % 4 ≠ 0 then .error .malformedInput
  else
    match hostLoadRsa d n s with
    | .error x => .error x
    | .ok s1 => hostRsaDecryptLoop polls 0 (rsaWords B) s1

/-! ### Boot and keys -/

/-- The first three steps of R294: check ID, "if it wants interrupts, write `CTRL`", load KEY. The
other steps are the first accesses of the procedures above. Which enables a host writes is its own
(R270 has two sources): `enables` is the word it writes to CTRL, none where it polls. That a wrong ID
ends the boot, by the name wrongDevice, is the model's choice (DESIGN CHOICE, log entry 26). -/
def hostBoot (enables : Option Word) (K : Block) (s : State) : Except HostError State :=
  match rd 0x00 s with
  | .error e => .error e
  | .ok (v, s1) =>
    if v = Config.idValue then
      match (match enables with | some w => wr 0x04 w s1 | none => .ok s1) with
      | .error e => .error e
      | .ok s2 => wr64 0x18 K s2
    else .error .wrongDevice

/-- A method tag (R241): Caesar, DES-like, RSA-like, or one that is none of them. -/
inductive MethodTag where
  | caesar
  | desLike
  | rsaLike
  | unknown
deriving DecidableEq, Repr

/-- The procedures that run on NCCE: R231 and R234, or R238 and R239. -/
inductive Procedure where
  | desMessages
  | rsaText
deriving DecidableEq, Repr

/-- The procedure the host runs for a method tag; "Caesar has no NCCE support" (none), and "an unknown
tag is the host's InvalidArgument" (R241). -/
def selectProcedure : MethodTag → Except HostError (Option Procedure)
  | .caesar => .ok none
  | .desLike => .ok (some .desMessages)
  | .rsaLike => .ok (some .rsaText)
  | .unknown => .error .invalidArgument

/-- The demo DES key is "loaded by the host into `KEY`" (R241). -/
def hostLoadDemoDesKey (s : State) : Except HostError State := wr64 0x18 Config.demoDesKey s

/-- The demo public RSA key is loaded "into ... the `RSA_*` registers" (R241). -/
def hostLoadDemoRsaPublic (s : State) : Except HostError State :=
  hostLoadRsa Config.demoRsaE Config.demoRsaN s

/-- The demo private RSA key is loaded "into ... the `RSA_*` registers" (R241). -/
def hostLoadDemoRsaPrivate (s : State) : Except HostError State :=
  hostLoadRsa Config.demoRsaD Config.demoRsaN s

end Sys2Proof.Machine
end

