-- ==== Sys2Proof/Safety.lean ====
section
/-!
DEFINITION. What a well-behaved state and a well-behaved host are: the invariant that every step keeps
and the busy protocol of 70_reset_and_hazards.md R300; and the command sequences that claims name.
-/
namespace Sys2Proof.Machine

/-- ERRINFO holds what R263 and R265 say for the recorded code: the rejected word for codes 1, 2, 3
and 5, the offset of the refused write for code 4, 0 for NONE (R25). -/
def errInfoTruthful (code : ErrCode) (info : Word) : Bool :=
  match code with
  | .none => decide (info = 0#32)
  | .illegalCmd =>
    match decode info with
    | .error _ => true
    | .ok _ => false
  | .badOperand =>
    match decode info with
    | .error _ => false
    | .ok i => !i.wellFormed
  | .cmdWhileBusy => true
  | .writeWhileBusy => isWritableData info.toNat && decide (info.toNat % 4 = 0)
  | .modZero => decide (info = encode .modexp)

/-- PENDING holds nothing, or a word that Check accepts with the registers as they stand, and then
DONE is 0 (R260, R261, R264). -/
def State.pendingAccepted (s : State) : Bool :=
  match s.pending with
  | none => true
  | some w => decide (s.check w = .none) && !s.done

/-- The invariant: ERRCODE is 0 exactly when ERR = 0 (R24), ERRINFO is truthful (R263), and PENDING
holds only an accepted word (R260). -/
def State.inv (s : State) : Bool :=
  (s.err == decide (s.errCode ≠ .none)) && errInfoTruthful s.errCode s.errInfo &&
    s.pendingAccepted

/-- The event addresses the register window, or is no bus access (R50). -/
def Event.inWindow : Event → Bool
  | .read a _ => (windowOffset a).isSome
  | .write a _ _ => (windowOffset a).isSome
  | .engine => true
  | .reset => true

/-- The busy protocol (R300) on one event: while busy, the host neither reads nor writes a data
register, nor writes CMD. -/
def Event.keepsBusyProtocol (s : State) : Event → Bool
  | .read a _ =>
    match windowOffset a with
    | none => true
    | some off => !s.busy || !isDataOffset off
  | .write a _ _ =>
    match windowOffset a with
    | none => true
    | some off => !s.busy || (!isDataOffset off && decide (off ≠ 0x0C))
  | .engine => true
  | .reset => true

/-! ### Sequences of commands -/

/-- The completion steps of a list of commands, one after another (R177's notation `A; B`). -/
def execAll : List Instr → State → Host.Outcome State Fault Refusal
  | [], s => .next s
  | i :: rest, s =>
    match exec i s with
    | .next t => execAll rest t
    | .fault f => .fault f
    | .refused r => .refused r

/-- The key-step command of one direction for round i (R173, R174). -/
def keyStepCommand (dir : Dir) (i : Nat) : Instr :=
  match dir with
  | .enc => .ksEncStep (BitVec.ofNat 8 i)
  | .dec => .ksDecStep (BitVec.ofNat 8 i)

/-- `BLK_LOAD; (KS_ENC_STEP i; ROUND) for i = 0..15; BLK_STORE`, or with KS_DEC_STEP (R177). -/
def stepwiseCommands (dir : Dir) : List Instr :=
  .blkLoad :: ((List.range 16).flatMap (fun i => [keyStepCommand dir i, .round]) ++ [.blkStore])

/-- The whole-block command of one direction (R147, R148). -/
def blockCommand (dir : Dir) : Instr :=
  match dir with
  | .enc => .encBlock
  | .dec => .decBlock

/-- `SK` after `KeyStep(0, dir)` .. `KeyStep(j, dir)` in order (R176: EK_j and DK_j). -/
def subkeyAfter (T : DesTables) (key : Block) (dir : Dir) (j : Nat) (p : Datapath) : SubKey :=
  ((List.range (j + 1)).foldl (fun q i => keyStep T key dir i q) p).sk

end Sys2Proof.Machine
end

