-- ==== Sys2Proof/Certificates/Slice0/Obligations.lean ====
section
/-!
DEFINITION. The statements about NCCE, from the numbered rules of spec/. NCCE has no memory (R40), so
a frame here is over its registers: a next state written as a record update of `s` says that every
field not named is unchanged.
-/
open Sys2Proof Sys2Proof.Machine

/-! ### Encoding -/

/-- R80, R83: a word decodes to a command exactly when it is that command's word. -/
def Obligations.WordDecodesExactlyToItsCommand : Prop :=
  ∀ (w : Word) (i : Instr), decode w = .ok i ↔ w = encode i

/-- A few words of R83, written out: bits 31:16 RSV, 15:8 IMM8, 7:0 OPC. -/
def Obligations.SampleWordsDecode : Prop :=
  decode 0b00000000_00000000_00000000_00000001#32 = .ok .sreset
  ∧ decode 0b00000000_00000000_00000111_00010110#32 = .ok (.sbox 7)
  ∧ decode 0b00000000_00000000_00000000_00100101#32 = .ok .decBlock
  ∧ decode 0b00000000_00000000_00001111_00110000#32 = .ok (.ksEncStep 15)
  ∧ decode 0b00000000_00000000_00000011_01000011#32 = .ok (.pad 3)
  ∧ decode 0b00000000_00000000_00000000_01010000#32 = .ok .modexp

/-- R264: the five tests of Check, in their order, on the fields of the word. -/
def Obligations.CheckTestsInOrder : Prop :=
  ∀ (s : State) (w : Word),
    s.check w =
      if w.toNat % 256 ∉ [0x00, 0x01, 0x10, 0x11, 0x12, 0x13, 0x14, 0x15, 0x16, 0x20, 0x21, 0x22, 0x23,
          0x24, 0x25, 0x30, 0x31, 0x40, 0x41, 0x42, 0x43, 0x44, 0x50] then .illegalCmd
      else if w.toNat / 65536 ≠ 0 then .illegalCmd
      else if w.toNat / 256 % 256 ≠ 0 ∧ w.toNat % 256 ∉ [0x16, 0x30, 0x31, 0x43] then .illegalCmd
      else if (w.toNat % 256 = 0x16 ∧ 8 ≤ w.toNat / 256 % 256)
          ∨ (w.toNat % 256 ∈ [0x30, 0x31] ∧ 16 ≤ w.toNat / 256 % 256)
          ∨ (w.toNat % 256 = 0x43 ∧ 8 ≤ w.toNat / 256 % 256) then .badOperand
      else if w.toNat % 256 = 0x50 ∧ s.rsaMod = 0#32 then .modZero
      else .none

/-- R86: an operand outside R82's range is rejected with error 2 at an idle CMD write, MODEXP with
modulus 0 with error 5; nothing but the error record and DONE changes. -/
def Obligations.OutOfRangeAndZeroModulusRejected : Prop :=
  ∀ (s : State), s.pending = none →
    (∀ i : Instr, i.wellFormed = false →
      s.busWrite 0x0C (encode i) =
        { s with
          done := false
          err := true
          errCode := if s.err then s.errCode else .badOperand
          errInfo := if s.err then s.errInfo else encode i })
    ∧ (s.rsaMod = 0#32 →
      s.busWrite 0x0C 0x00000050#32 =
        { s with
          done := false
          err := true
          errCode := if s.err then s.errCode else .modZero
          errInfo := if s.err then s.errInfo else 0x00000050#32 })

/-- Log entry 14, the model's choice for states no run reaches: a meaning whose operands Check
refuses records the rejection that Submit would, and changes nothing else but DONE and PENDING. -/
def Obligations.MeaningOfRefusedFormIsRejection : Prop :=
  ∀ (s : State),
    (∀ i : Instr, i.wellFormed = false →
      exec i s = .next
        { s with
          pending := none
          done := false
          err := true
          errCode := if s.err then s.errCode else .badOperand
          errInfo := if s.err then s.errInfo else encode i })
    ∧ (s.rsaMod = 0#32 →
      exec .modexp s = .next
        { s with
          pending := none
          done := false
          err := true
          errCode := if s.err then s.errCode else .modZero
          errInfo := if s.err then s.errInfo else 0x00000050#32 })

/-! ### Reset, status and interrupt -/

/-- R292: the state after reset, as the bus reads it: ID, and 0 at every other offset. -/
def Obligations.ResetReadsZero : Prop :=
  State.reset.pending = none
  ∧ State.reset.irq = false
  ∧ State.reset.readReg 0x00 = 0x4E434345#32
  ∧ ∀ off, 0 < off → off < 0x100 → State.reset.readReg off = 0#32

/-- R291: the reset input, in any state, busy or not, leaves every register as after reset, and no
command pending, so that the engine's next turn changes nothing. -/
def Obligations.ResetAbortsPendingCommand : Prop :=
  ∀ (s : State) (rest : List Event), s.events = .reset :: rest →
    ∃ t, step s = .next t
      ∧ t = { State.reset with
              events := rest
              response := s.response
              entropyDraws := s.entropyDraws
              busyReads := s.busyReads }
      ∧ engineTurn t = .next t

/-- R24: the fields of the STATUS word; every other bit reads 0. -/
def Obligations.StatusWordFields : Prop :=
  ∀ (s : State) (k : Nat),
    s.statusWord.getLsbD k =
      if k = 0 then decide (s.pending ≠ none)
      else if k = 1 then s.done
      else if k = 2 then s.err
      else if 8 ≤ k ∧ k ≤ 11 then s.errCode.bits.getLsbD (k - 8)
      else false

/-- R36: the interrupt output, and that it is 0 after reset. -/
def Obligations.InterruptOutput : Prop :=
  (∀ s : State, s.irq = true ↔ (s.done = true ∧ s.ieDone = true) ∨ (s.err = true ∧ s.ieErr = true))
  ∧ State.reset.irq = false

/-- R23, R24, R56: what a write to CTRL and a write to STATUS do, for every word written, busy or
not. -/
def Obligations.CtrlAndStatusWrites : Prop :=
  ∀ (s : State) (v : Word),
    s.busWrite 0x04 v = { s with ieDone := v.getLsbD 0, ieErr := v.getLsbD 1 }
    ∧ s.busWrite 0x08 v =
      { s with
        done := if v.getLsbD 1 then false else s.done
        err := if v.getLsbD 2 then false else s.err
        errCode := if v.getLsbD 2 then .none else s.errCode
        errInfo := if v.getLsbD 2 then 0#32 else s.errInfo }

/-- R262: recording an error: the first one is kept, nothing else changes, and a command word that
Check passes is accepted all the same. -/
def Obligations.FirstErrorIsKept : Prop :=
  ∀ (s : State) (code : ErrCode) (info : Word),
    (s.err = false →
      s.raiseError code info = { s with err := true, errCode := code, errInfo := info })
    ∧ (s.err = true → s.raiseError code info = s)
    ∧ ∀ v : Word, s.pending = none → s.check v = .none →
        ((s.raiseError code info).busWrite 0x0C v).pending = some v

/-! ### The bus -/

/-- R54: an access of another size, or at an offset that is not a multiple of 4, is a bus error and
has no effect. -/
def Obligations.BusErrorHasNoEffect : Prop :=
  ∀ (s : State) (off : Nat) (size : Size) (v : Word),
    off < 0x100 → ¬ (size = .word ∧ off % 4 = 0) →
      handleEvent (.read (Config.base + off) size) s = .next { s with response := some .busError }
      ∧ handleEvent (.write (Config.base + off) size v) s =
          .next { s with response := some .busError }

/-- R50 and log entry 9: the machine stops exactly at a host access outside the window. -/
def Obligations.StepStopsOnlyOutsideWindow : Prop :=
  ∀ s : State,
    ((∃ e rest, s.events = e :: rest ∧ e.inWindow = false) → step s = .fault .outsideWindow)
    ∧ (¬ (∃ e rest, s.events = e :: rest ∧ e.inWindow = false) → ∃ t, step s = .next t)

/-- R55: what a read returns, and that it changes nothing else. The MODEL'S CHOICES in it: a busy read
of a data register is the free value `Config.busyRead` and moves its counter (log entry 8), and the
answer stands in the field `response` (log entry 6). -/
def Obligations.BusReadReturns : Prop :=
  ∀ (s : State) (off : Nat), off < 0x100 → off % 4 = 0 →
    ∃ v, handleEvent (.read (Config.base + off) .word) s =
        .next { s with
          response := some (.data v)
          busyReads :=
            if 0x18 ≤ off ∧ off ≤ 0x5C ∧ s.pending ≠ none then s.busyReads + 1 else s.busyReads }
      ∧ (off = 0x0C ∨ off = 0x14 ∨ 0x60 ≤ off → v = 0#32)
      ∧ (0x18 ≤ off ∧ off ≤ 0x5C ∧ s.pending ≠ none → v = Config.busyRead s.busyReads)
      ∧ (¬ (0x18 ≤ off ∧ off ≤ 0x5C ∧ s.pending ≠ none) → v = s.readReg off)

/-- R51 to R53, R26: which register half each offset of the window reads; CMD and the reserved offsets
read 0. -/
def Obligations.RegisterMapReads : Prop :=
  ∀ s : State,
    s.readReg 0x00 = 0x4E434345#32
    ∧ s.readReg 0x04 = BitVec.ofNat 32 (s.ieDone.toNat + 2 * s.ieErr.toNat)
    ∧ s.readReg 0x08 = s.statusWord
    ∧ s.readReg 0x0C = 0#32
    ∧ s.readReg 0x10 = s.errInfo
    ∧ s.readReg 0x18 ++ s.readReg 0x1C = s.key
    ∧ s.readReg 0x20 ++ s.readReg 0x24 = s.din
    ∧ s.readReg 0x28 ++ s.readReg 0x2C = s.dout
    ∧ s.readReg 0x30 ++ s.readReg 0x34 = s.chain
    ∧ s.readReg 0x38 = s.ksC.setWidth 32
    ∧ s.readReg 0x3C = s.ksD.setWidth 32
    ∧ s.readReg 0x40 ++ s.readReg 0x44 = s.sk.setWidth 64
    ∧ s.readReg 0x48 = s.halfL
    ∧ s.readReg 0x4C = s.halfR
    ∧ s.readReg 0x50 = s.rsaBase
    ∧ s.readReg 0x54 = s.rsaExp
    ∧ s.readReg 0x58 = s.rsaMod
    ∧ s.readReg 0x5C = s.rsaRes
    ∧ ∀ off, off = 0x14 ∨ 0x60 ≤ off → s.readReg off = 0#32

/-- R51, R56: an idle write to a writable data register is read back, masked to the used width, and
no other offset reads otherwise; while busy it is discarded and recorded as error 4; a write to a
read-only or reserved offset has no effect at all. An aligned write event at any offset of the window
is that bus write and no more (its answer stands in the field `response`, log entry 6). -/
def Obligations.HostWriteIsReadBackAlone : Prop :=
  ∀ (s : State) (off : Nat) (v : Word), off < 0x100 → off % 4 = 0 →
    ((0x18 ≤ off ∧ off ≤ 0x24) ∨ (0x30 ≤ off ∧ off ≤ 0x58) → s.pending = none →
      (s.busWrite off v).readReg off =
          v &&& (if off = 0x38 ∨ off = 0x3C then 0x0FFFFFFF#32
                 else if off = 0x40 then 0x0000FFFF#32 else 0xFFFFFFFF#32)
      ∧ ∀ other, other ≠ off → (s.busWrite off v).readReg other = s.readReg other)
    ∧ ((0x18 ≤ off ∧ off ≤ 0x24) ∨ (0x30 ≤ off ∧ off ≤ 0x58) → s.pending ≠ none →
      s.busWrite off v =
        { s with
          err := true
          errCode := if s.err then s.errCode else .writeWhileBusy
          errInfo := if s.err then s.errInfo else BitVec.ofNat 32 off })
    ∧ (off ∈ [0x00, 0x10, 0x14, 0x28, 0x2C, 0x5C] ∨ 0x60 ≤ off → s.busWrite off v = s)
    ∧ handleEvent (.write (Config.base + off) .word v) s =
        .next { s.busWrite off v with response := some .written }

/-- R260: Submit, the three ways it ends. -/
def Obligations.SubmitAcceptsOrRejects : Prop :=
  ∀ (s : State) (v : Word),
    (s.pending ≠ none → s.busWrite 0x0C v = s.raiseError .cmdWhileBusy v)
    ∧ (s.pending = none → s.check v ≠ .none →
        s.busWrite 0x0C v = ({ s with done := false } : State).raiseError (s.check v) v)
    ∧ (s.pending = none → s.check v = .none →
        s.busWrite 0x0C v = { s with done := false, pending := some v })

/-- R261: after an idle CMD write the host sees BUSY (accepted) or neither BUSY nor DONE with ERR
(rejected); completing an accepted command gives DONE without BUSY; a CMD write while busy leaves DONE
alone. -/
def Obligations.CmdWriteClearsDone : Prop :=
  ∀ (s : State) (v : Word),
    (s.pending = none →
      (s.busWrite 0x0C v).done = false
      ∧ ((s.busWrite 0x0C v).pending = some v
          ∨ ((s.busWrite 0x0C v).pending = none ∧ (s.busWrite 0x0C v).err = true))
      ∧ ((s.busWrite 0x0C v).pending = some v →
          ∃ t, engineTurn (s.busWrite 0x0C v) = .next t ∧ t.pending = none ∧ t.done = true))
    ∧ (s.pending ≠ none →
      (s.busWrite 0x0C v).done = s.done ∧ (s.busWrite 0x0C v).pending = s.pending)

/-- R267: while a command is pending no host access changes a data register, PENDING or DONE except by
writing 1 to STATUS.DONE: no partial result of a command is ever architectural. -/
def Obligations.HostCannotChangeDataWhileBusy : Prop :=
  ∀ (s t : State) (e : Event), s.pending ≠ none → e ≠ .engine → e ≠ .reset →
    handleEvent e s = .next t →
      t.pending = s.pending ∧ t.key = s.key ∧ t.din = s.din ∧ t.dout = s.dout ∧ t.chain = s.chain
      ∧ t.ksC = s.ksC ∧ t.ksD = s.ksD ∧ t.sk = s.sk ∧ t.halfL = s.halfL ∧ t.halfR = s.halfR
      ∧ t.rsaBase = s.rsaBase ∧ t.rsaExp = s.rsaExp ∧ t.rsaMod = s.rsaMod ∧ t.rsaRes = s.rsaRes
      ∧ t.events = s.events ∧ t.entropyDraws = s.entropyDraws ∧ (s.done = false → t.done = false)

/-- R300: an event that keeps the busy protocol records no busy error (codes 3 and 4) that was not
recorded before, and uses up no arbitrary read value. -/
def Obligations.BusyProtocolAvoidsBusyErrors : Prop :=
  ∀ (s t : State) (e : Event), e.keepsBusyProtocol s = true → handleEvent e s = .next t →
    t.busyReads = s.busyReads
    ∧ (t.errCode = .writeWhileBusy → s.errCode = .writeWhileBusy)
    ∧ (t.errCode = .cmdWhileBusy → s.errCode = .cmdWhileBusy)

/-! ### The engine -/

/-- R266, R35: when the engine's turn is next and PENDING holds the word of a command, the step is exec
of that command; with nothing pending the step only takes the turn. The MODEL'S CHOICES in it: the
order of moves is a schedule in State (log entry 2), an empty schedule gives the engine the next step
(log entry 3, unsafe), and an idle turn is a step that changes nothing else (log entry 4). -/
def Obligations.StepRunsThePendingCommand : Prop :=
  ∀ (s : State) (rest : List Event),
    (s.events = .engine :: rest ∨ (s.events = [] ∧ rest = [])) →
      (∀ (w : Word) (i : Instr), s.pending = some w → decode w = .ok i → i.wellFormed = true →
        step s = exec i { s with events := rest })
      ∧ (s.pending = none → step s = .next { s with events := rest })

/-- R266: a completion step never raises an error. Under the invariant it clears PENDING, sets DONE,
and leaves ERR, ERRCODE and ERRINFO alone, except that SRESET clears them; CTRL stays. -/
def Obligations.CompletionRaisesNoError : Prop :=
  ∀ (s : State) (w : Word), s.inv = true → s.pending = some w →
    ∃ t, engineTurn s = .next t ∧ t.pending = none ∧ t.done = true
      ∧ t.ieDone = s.ieDone ∧ t.ieErr = s.ieErr
      ∧ (w ≠ 0x00000001#32 → t.err = s.err ∧ t.errCode = s.errCode ∧ t.errInfo = s.errInfo)
      ∧ (w = 0x00000001#32 → t.err = false ∧ t.errCode = .none ∧ t.errInfo = 0#32)

/-- R266: "Every accepted command completes". Where only host accesses to the window wait before the
engine's turn (or before the schedule's end), they all happen with the command still pending, and the
next step is the command's own effect, which leaves DONE = 1 and nothing pending. Whatever in-window
events wait (resets too), when each of them and one more turn have happened no command is pending.
The MODEL'S CHOICES in it: the schedule (log entry 2), LATENCY as the number of events before the
turn (log entry 21), and an empty schedule giving the engine the next step (log entry 3, unsafe). -/
def Obligations.EveryCommandCompletes : Prop :=
  (∀ (s : State) (w : Word) (accesses rest : List Event), s.inv = true → s.pending = some w →
    (s.events = accesses ++ .engine :: rest ∨ (s.events = accesses ∧ rest = [])) →
    (∀ e ∈ accesses, e ≠ .engine ∧ e ≠ .reset ∧ e.inWindow = true) →
      ∃ (i : Instr) (u t : State), decode w = .ok i
        ∧ Host.Core.run Sys2Proof.core accesses.length s = .next u ∧ u.pending = some w
        ∧ exec i { u with events := rest } = .next t
        ∧ Host.Core.run Sys2Proof.core (accesses.length + 1) s = .next t
        ∧ t.pending = none ∧ t.done = true ∧ t.events = rest)
  ∧ ∀ s : State, (∀ e ∈ s.events, e.inWindow = true) →
      ∃ t, Host.Core.run Sys2Proof.core (s.events.length + 1) s = .next t
        ∧ t.events = [] ∧ t.pending = none

/-- The invariant of Safety.lean (ERRCODE is 0 exactly when ERR = 0; ERRINFO truthful; PENDING holds
only an accepted word, with DONE 0) is kept by every step. -/
def Obligations.StepKeepsInvariant : Prop :=
  ∀ s t : State, s.inv = true → step s = .next t → t.inv = true

/-- The invariant holds at reset. -/
def Obligations.ResetMeetsInvariant : Prop := State.reset.inv = true

/-! ### Control commands -/

/-- R100, R101: NOP writes the status only; SRESET leaves the data state and the error record of reset,
keeps CTRL and sets DONE. -/
def Obligations.NopAndSresetFinalState : Prop :=
  ∀ s : State,
    exec .nop s = .next { s with pending := none, done := true }
    ∧ exec .sreset s = .next
        { State.reset with
          ieDone := s.ieDone
          ieErr := s.ieErr
          done := true
          events := s.events
          response := s.response
          entropyDraws := s.entropyDraws
          busyReads := s.busyReads }

/-! ### Permutation and substitution commands -/

/-- R120, R121 with R9, R112, R113: IP and FP, position by position. -/
def Obligations.BlockPermutationsPlacePositions : Prop :=
  ∀ s : State,
    (∃ v : Block, exec .ip s = .next { s with dout := v, pending := none, done := true }
      ∧ ∀ k, 1 ≤ k → k ≤ 64 → pos v k = pos s.din (fipsIp.getD (k - 1) 0))
    ∧ (∃ v : Block, exec .fp s = .next { s with dout := v, pending := none, done := true }
      ∧ ∀ k, 1 ≤ k → k ≤ 64 → pos v k = pos s.din (fipsFp.getD (k - 1) 0))

/-- R122 to R125 with R9, R114 to R117: the narrower permutations, position by position, from the low
bits of DIN into the low bits of DOUT, whose other bits are 0. -/
def Obligations.NarrowPermutationsPlacePositions : Prop :=
  ∀ s : State,
    (∃ v : Block, exec .expand s = .next { s with dout := v, pending := none, done := true }
      ∧ (∀ k, 1 ≤ k → k ≤ 16 → pos v k = false)
      ∧ ∀ k, 1 ≤ k → k ≤ 48 → pos v (16 + k) = pos s.din (32 + fipsE.getD (k - 1) 0))
    ∧ (∃ v : Block, exec .pperm s = .next { s with dout := v, pending := none, done := true }
      ∧ (∀ k, 1 ≤ k → k ≤ 32 → pos v k = false)
      ∧ ∀ k, 1 ≤ k → k ≤ 32 → pos v (32 + k) = pos s.din (32 + fipsP.getD (k - 1) 0))
    ∧ (∃ v : Block, exec .pc1 s = .next { s with dout := v, pending := none, done := true }
      ∧ (∀ k, 1 ≤ k → k ≤ 8 → pos v k = false)
      ∧ ∀ k, 1 ≤ k → k ≤ 56 → pos v (8 + k) = pos s.din (fipsPc1.getD (k - 1) 0))
    ∧ (∃ v : Block, exec .pc2 s = .next { s with dout := v, pending := none, done := true }
      ∧ (∀ k, 1 ≤ k → k ≤ 16 → pos v k = false)
      ∧ ∀ k, 1 ≤ k → k ≤ 48 → pos v (16 + k) = pos s.din (8 + fipsPc2.getD (k - 1) 0))

/-- R126, R118: SBOX n reads row `x6[5] ++ x6[0]`, column `x6[4:1]` of Sn. -/
def Obligations.SboxReadsTableEntry : Prop :=
  ∀ (s : State) (n : Byte), n.toNat < 8 →
    exec (.sbox n) s = .next
      { s with
        dout := BitVec.ofNat 64
          (((fipsTables.sbox.getD n.toNat []).getD
            (s.din.toNat / 32 % 2 * 2 + s.din.toNat % 2) []).getD (s.din.toNat / 2 % 16) 0)
        pending := none
        done := true }

/-! ### Feistel datapath commands -/

/-- R141, R140: FFUNC, stage by stage: expand and XOR, the eight S-boxes, the round permutation. -/
def Obligations.FfuncAppliesRoundFunction : Prop :=
  ∀ s : State, ∃ (X : SubKey) (Y : Word) (v : Block),
    (∀ k, 1 ≤ k → k ≤ 48 → pos X k = (pos s.din (32 + fipsE.getD (k - 1) 0) ^^ pos s.sk k))
    ∧ (∀ j, j < 8 → Y.toNat / 16 ^ (7 - j) % 16 =
        (((fipsTables.sbox.getD j []).getD
          (X.toNat / 2 ^ (47 - 6 * j) % 2 * 2 + X.toNat / 2 ^ (42 - 6 * j) % 2) []).getD
          (X.toNat / 2 ^ (43 - 6 * j) % 16) 0))
    ∧ (∀ k, 1 ≤ k → k ≤ 32 → pos v k = false)
    ∧ (∀ k, 1 ≤ k → k ≤ 32 → pos v (32 + k) = pos Y (fipsP.getD (k - 1) 0))
    ∧ exec .ffunc s = .next { s with dout := v, pending := none, done := true }

/-- R142: BLK_LOAD writes the halves of IPf(DIN) and nothing else but the status. -/
def Obligations.BlkLoadSplitsPermutedBlock : Prop :=
  ∀ s : State, ∃ l r : Word,
    (∀ k, 1 ≤ k → k ≤ 64 → pos (l ++ r) k = pos s.din (fipsIp.getD (k - 1) 0))
    ∧ exec .blkLoad s = .next { s with halfL := l, halfR := r, pending := none, done := true }

/-- R143: ROUND, one simultaneous assignment, with SK as it stands. -/
def Obligations.RoundSwapsAndXors : Prop :=
  ∀ s : State, exec .round s = .next
    { s with
      halfL := s.halfR
      halfR := s.halfL ^^^ roundF tables s.halfR s.sk
      pending := none
      done := true }

/-- R144: BLK_STORE swaps the halves, and DOUT is FPf of the swapped pair. -/
def Obligations.BlkStoreSwapsAndPermutes : Prop :=
  ∀ s : State, ∃ v : Block,
    (∀ k, 1 ≤ k → k ≤ 64 → pos v k = pos (s.halfR ++ s.halfL) (fipsFp.getD (k - 1) 0))
    ∧ exec .blkStore s = .next
        { s with halfL := s.halfR, halfR := s.halfL, dout := v, pending := none, done := true }

/-- R147: the whole state after ENC_BLOCK: DOUT = ENC(KEY, DIN), the halves are IPf(DOUT), KS_C ++ KS_D
= PC1f(KEY), SK the subkey of round 15. -/
def Obligations.EncBlockFinalState : Prop :=
  ∀ s : State, ∃ (y : Block) (l r : Word) (c d : KeyHalf),
    y = encryptBlock tables s.key s.din
    ∧ l ++ r = ipf tables y
    ∧ c ++ d = pc1f tables s.key
    ∧ exec .encBlock s = .next
        { s with
          dout := y
          halfL := l
          halfR := r
          ksC := c
          ksD := d
          sk := subkeyAfter tables s.key .enc 15 zeroDatapath
          pending := none
          done := true }

/-- R148: the whole state after DEC_BLOCK: DOUT = DEC(KEY, DIN), the halves are IPf(DOUT), KS_C and KS_D
the halves of PC1f(KEY) rotated left by one, SK the subkey of encryption round 0. -/
def Obligations.DecBlockFinalState : Prop :=
  ∀ s : State, ∃ (y : Block) (l r : Word) (c d : KeyHalf),
    y = decryptBlock tables s.key s.din
    ∧ l ++ r = ipf tables y
    ∧ c ++ d = pc1f tables s.key
    ∧ exec .decBlock s = .next
        { s with
          dout := y
          halfL := l
          halfR := r
          ksC := c.rotateLeft 1
          ksD := d.rotateLeft 1
          sk := subkeyAfter tables s.key .enc 0 zeroDatapath
          pending := none
          done := true }

/-! ### Key-schedule commands -/

/-- R173, R171: KS_ENC_STEP i rotates both halves left by SHIFT[i], reloading them from KEY at i = 0. -/
def Obligations.KsEncStepRotatesLeft : Prop :=
  ∀ (s : State) (i : Byte), i.toNat < 16 →
    ∃ c d : KeyHalf,
      c = ((if i.toNat = 0 then keyHalfC tables s.key else s.ksC).rotateLeft
            ([1, 1, 2, 2, 2, 2, 2, 2, 1, 2, 2, 2, 2, 2, 2, 1].getD i.toNat 0))
      ∧ d = ((if i.toNat = 0 then keyHalfD tables s.key else s.ksD).rotateLeft
            ([1, 1, 2, 2, 2, 2, 2, 2, 1, 2, 2, 2, 2, 2, 2, 1].getD i.toNat 0))
      ∧ exec (.ksEncStep i) s = .next
          { s with ksC := c, ksD := d, sk := pc2f tables (c ++ d), pending := none, done := true }

/-- R174, R171: KS_DEC_STEP i loads the halves from KEY at i = 0 without rotating, and rotates them
right by SHIFT[i] otherwise. -/
def Obligations.KsDecStepRotatesRight : Prop :=
  ∀ (s : State) (i : Byte), i.toNat < 16 →
    ∃ c d : KeyHalf,
      c = (if i.toNat = 0 then keyHalfC tables s.key else s.ksC.rotateRight
            ([1, 1, 2, 2, 2, 2, 2, 2, 1, 2, 2, 2, 2, 2, 2, 1].getD i.toNat 0))
      ∧ d = (if i.toNat = 0 then keyHalfD tables s.key else s.ksD.rotateRight
            ([1, 1, 2, 2, 2, 2, 2, 2, 1, 2, 2, 2, 2, 2, 2, 1].getD i.toNat 0))
      ∧ exec (.ksDecStep i) s = .next
          { s with ksC := c, ksD := d, sk := pc2f tables (c ++ d), pending := none, done := true }

/-! ### Chaining, IV and padding commands -/

/-- R190: the whole state after CBC_ENC, for every state: DOUT and CHAIN are ENC(KEY, DIN xor CHAIN), the
datapath registers end as R150 leaves them; it is what ENC_BLOCK leaves for that input, with DIN
kept and CHAIN = DOUT. -/
def Obligations.CbcEncChains : Prop :=
  ∀ s : State, ∃ (y : Block) (l r : Word) (c d : KeyHalf),
    y = encryptBlock tables s.key (s.din ^^^ s.chain)
    ∧ l ++ r = ipf tables y
    ∧ c ++ d = pc1f tables s.key
    ∧ exec .cbcEnc s = .next
        { s with
          dout := y
          chain := y
          halfL := l
          halfR := r
          ksC := c
          ksD := d
          sk := subkeyAfter tables s.key .enc 15 zeroDatapath
          pending := none
          done := true }
    ∧ ∃ t : State,
        exec .encBlock { s with din := s.din ^^^ s.chain } = .next t
        ∧ t.dout = y
        ∧ exec .cbcEnc s = .next { t with din := s.din, chain := t.dout }

/-- R191: the whole state after CBC_DEC, for every state: DOUT is DEC(KEY, DIN) xor the old CHAIN, CHAIN
is DIN, the datapath registers end as R150 leaves them; it is what DEC_BLOCK leaves, with DOUT and
CHAIN so. -/
def Obligations.CbcDecChains : Prop :=
  ∀ s : State, ∃ (y : Block) (l r : Word) (c d : KeyHalf),
    y = decryptBlock tables s.key s.din
    ∧ l ++ r = ipf tables y
    ∧ c ++ d = pc1f tables s.key
    ∧ exec .cbcDec s = .next
        { s with
          dout := y ^^^ s.chain
          chain := s.din
          halfL := l
          halfR := r
          ksC := c.rotateLeft 1
          ksD := d.rotateLeft 1
          sk := subkeyAfter tables s.key .enc 0 zeroDatapath
          pending := none
          done := true }
    ∧ ∃ t : State,
        exec .decBlock s = .next t
        ∧ t.dout = y
        ∧ exec .cbcDec s = .next { t with dout := t.dout ^^^ s.chain, chain := s.din }

/-- R192: IV_GEN puts one draw of the entropy source, whatever it is, into CHAIN and DOUT, and uses
the draw up. -/
def Obligations.IvGenDrawsOnce : Prop :=
  ∀ s : State, ∃ r : Block, r = Config.entropy s.entropyDraws
    ∧ exec .ivGen s = .next
        { s with
          chain := r
          dout := r
          entropyDraws := s.entropyDraws + 1
          pending := none
          done := true }

/-- R193, R194: PAD n keeps bytes 0 to n-1 of DIN and fills the others with 8 - n. -/
def Obligations.PadFillsBytes : Prop :=
  ∀ (s : State) (n : Byte), n.toNat < 8 → ∃ v : Block,
    (∀ k, k < 8 → (byteOf v k).toNat = if k < n.toNat then (byteOf s.din k).toNat else 8 - n.toNat)
    ∧ exec (.pad n) s = .next { s with dout := v, pending := none, done := true }

/-- R196, R195: UNPAD's count c is 0, or the last c bytes of DIN all equal c; and it is 0 only where
no v in 1..8 has the last v bytes equal to v. -/
def Obligations.UnpadCountsPadding : Prop :=
  ∀ s : State, ∃ c : Nat, c ≤ 8
    ∧ (c ≠ 0 → ∀ k, 8 - c ≤ k → k < 8 → (byteOf s.din k).toNat = c)
    ∧ (c = 0 → ∀ v, 1 ≤ v → v ≤ 8 → ∃ k, 8 - v ≤ k ∧ k < 8 ∧ (byteOf s.din k).toNat ≠ v)
    ∧ exec .unpad s = .next { s with dout := BitVec.ofNat 64 c, pending := none, done := true }

/-! ### Modular exponentiation -/

/-- R221, R220: MODEXP computes base ^ exponent mod modulus exactly, and touches no Feistel register. -/
def Obligations.ModexpIsExact : Prop :=
  ∀ s : State, s.rsaMod ≠ 0#32 → ∃ v : Word,
    v.toNat = s.rsaBase.toNat ^ s.rsaExp.toNat % s.rsaMod.toNat
    ∧ exec .modexp s = .next { s with rsaRes := v, pending := none, done := true }

/-! ### Rules over all commands -/

/-- R41: which commands write each register; every command leaves CTRL, the schedule, the last response
and the busy-read counter alone. -/
def Obligations.OnlyListedCommandsWrite : Prop :=
  ∀ (i : Instr) (s t : State), exec i s = .next t →
    (i ≠ .sreset →
      t.key = s.key ∧ t.din = s.din
      ∧ t.rsaBase = s.rsaBase ∧ t.rsaExp = s.rsaExp ∧ t.rsaMod = s.rsaMod
      ∧ (i ≠ .modexp → t.rsaRes = s.rsaRes)
      ∧ (i ∉ [.cbcEnc, .cbcDec, .ivGen] → t.chain = s.chain)
      ∧ (i ∉ [.blkLoad, .round, .blkStore, .encBlock, .decBlock, .cbcEnc, .cbcDec] →
          t.halfL = s.halfL ∧ t.halfR = s.halfR)
      ∧ ((∀ k, i ≠ .ksEncStep k ∧ i ≠ .ksDecStep k) →
          i ∉ [.encBlock, .decBlock, .cbcEnc, .cbcDec] →
          t.ksC = s.ksC ∧ t.ksD = s.ksD ∧ t.sk = s.sk)
      ∧ (i ∈ [.nop, .blkLoad, .round, .modexp] ∨ (∃ k, i = .ksEncStep k ∨ i = .ksDecStep k) →
          t.dout = s.dout)
      ∧ (i ≠ .ivGen → t.entropyDraws = s.entropyDraws))
    ∧ t.ieDone = s.ieDone ∧ t.ieErr = s.ieErr
    ∧ t.events = s.events ∧ t.response = s.response ∧ t.busyReads = s.busyReads

/-- R41: DOUT and RSA_RES are read by the host only. With other values in them before a command, every
other register after it is the same, and each of the two holds after it either the very value it
would have held, or, where the command leaves it alone, the value put there. -/
def Obligations.NoCommandReadsResults : Prop :=
  ∀ (i : Instr) (s t : State) (d : Block) (r : Word), exec i s = .next t →
    ∃ (d' : Block) (r' : Word),
      exec i { s with dout := d, rsaRes := r } = .next { t with dout := d', rsaRes := r' }
      ∧ (d' = t.dout ∨ (t.dout = s.dout ∧ d' = d))
      ∧ (r' = t.rsaRes ∨ (t.rsaRes = s.rsaRes ∧ r' = r))

/-! ### Laws of the cipher -/

/-- R111, R170, R175: the default tables meet the constraints; SHIFT is the schedule, sums to 28 and is
symmetric. -/
def Obligations.DefaultTablesAreValid : Prop :=
  fipsTables.Valid
  ∧ (List.range 16).map shiftAmount = [1, 1, 2, 2, 2, 2, 2, 2, 1, 2, 2, 2, 2, 2, 2, 1]
  ∧ ((List.range 16).map shiftAmount).sum = 28
  ∧ ∀ i, 1 ≤ i → i ≤ 15 → shiftAmount i = shiftAmount (16 - i)

/-- R111(b): FP inverts IP and IP inverts FP on every block, for every valid instance. -/
def Obligations.FinalPermutationInvertsInitial : Prop :=
  ∀ (T : DesTables), T.Valid → ∀ x : Block, fpf T (ipf T x) = x ∧ ipf T (fpf T x) = x

/-- R149: block decryption inverts block encryption and conversely, for every valid `DesTables`
instance, every key and every block. -/
def Obligations.BlockDecryptionInvertsEncryption : Prop :=
  ∀ (T : DesTables), T.Valid → ∀ key x : Block,
    decryptBlock T key (encryptBlock T key x) = x
    ∧ encryptBlock T key (decryptBlock T key x) = x

/-- R145, R146: the value of the block procedure depends on the key and the block alone, not on what
the datapath registers held. -/
def Obligations.BlockValueIgnoresOldDatapath : Prop :=
  ∀ (T : DesTables) (key x : Block) (p : Datapath),
    blockValue T key .enc x p = encryptBlock T key x
    ∧ blockValue T key .dec x p = decryptBlock T key x

/-- R176: the decryption subkeys are the encryption subkeys in reverse order, for every instance and
whatever the registers held at the start. -/
def Obligations.KeyScheduleIsSymmetric : Prop :=
  ∀ (T : DesTables) (key : Block) (p q : Datapath) (i : Nat), i ≤ 15 →
    subkeyAfter T key .dec i p = subkeyAfter T key .enc (15 - i) q

/-- R172: keys that differ only in the parity positions 8, 16, .., 64 give the same subkeys. -/
def Obligations.ParityPositionsDoNotMatter : Prop :=
  ∀ key key' : Block, (∀ k, 1 ≤ k → k ≤ 64 → k % 8 ≠ 0 → pos key k = pos key' k) →
    ∀ (dir : Dir) (i : Nat) (p : Datapath), keyStep tables key dir i p = keyStep tables key' dir i p

/-- R177: the stepwise sequence leaves the machine exactly as the whole-block command does. -/
def Obligations.StepwiseSequenceEqualsBlockCommand : Prop :=
  ∀ (dir : Dir) (s : State), execAll (stepwiseCommands dir) s = exec (blockCommand dir) s

/-- R197: PadCount(Pad(x, n)) = 8 - n, and stripping that many bytes leaves the first n of x. -/
def Obligations.PadCountOfPad : Prop :=
  ∀ (x : Block) (n : Nat), n ≤ 7 →
    padCount (padBlock x n) = 8 - n
    ∧ (bytesOf (padBlock x n)).take (8 - padCount (padBlock x n)) = (bytesOf x).take n

/-! ### Messages -/

/-- R232: the length of an encrypted message; an empty one gives the IV alone. -/
def Obligations.CiphertextLength : Prop :=
  ∀ (T : DesTables) (K r : Block) (P : List Byte),
    (msgEncrypt T K P r).length = 8 * ((P.length + 7) / 8 + 1)
    ∧ msgEncrypt T K [] r = bytesOf r

/-- R235: the round trip with its exact precondition, and what happens in the excepted case. -/
def Obligations.MessageRoundTrip : Prop :=
  ∀ (T : DesTables), T.Valid → ∀ (K r : Block) (P : List Byte),
    msgDecrypt T K (msgEncrypt T K P r) =
      .ok (if P ≠ [] ∧ P.length % 8 = 0
           then P.take (P.length - padCount (blockOfBytes (P.drop (P.length - 8))))
           else P)

/-- R236: plaintexts that differ inside block j alone give ciphertexts that differ in block j and in
every later block. -/
def Obligations.ChainingDiffusion : Prop :=
  ∀ (T : DesTables), T.Valid → ∀ (K r : Block) (P Q : List Byte) (j : Nat),
    P.length = Q.length → msgSegment P j ≠ msgSegment Q j →
    (∀ i, i ≠ j → msgSegment P i = msgSegment Q i) →
    ∀ i, j ≤ i → i < segmentCount P →
      (cipherBlocks T K P r).getD i 0#64 ≠ (cipherBlocks T K Q r).getD i 0#64

/-- R231: the host procedure for encryption, run on the machine from any idle state without an error,
with any latencies, emits MsgEncrypt(K, P, r) for the draw r of its IV_GEN (r is the free value of log
entry 7; the latencies are the poll counts of log entries 21 and 22). -/
def Obligations.HostEncryptionMeetsContract : Prop :=
  ∀ (polls : Nat → Nat) (K : Block) (P : List Byte) (s : State),
    s.pending = none → s.err = false →
      ∃ t, hostMsgEncrypt polls K P s =
          .ok (msgEncrypt tables K P (Config.entropy s.entropyDraws), t)
        ∧ t.pending = none ∧ t.err = false ∧ t.events = s.events

/-- R234: the host procedure for decryption, run on the machine from any idle state, with any
latencies (the poll counts of log entries 21 and 22), gives MsgDecrypt(K, C), its MalformedInput among
the results. -/
def Obligations.HostDecryptionMeetsContract : Prop :=
  ∀ (polls : Nat → Nat) (K : Block) (C : List Byte) (s : State), s.pending = none →
    (hostMsgDecrypt polls K C s).map Prod.fst = msgDecrypt tables K C

/-- R238, R239: the host procedures for RSA text give RsaEncrypt and RsaDecrypt from any idle state, an
error recorded before or not, with any latencies (log entry 21). The MODEL'S CHOICES in it (log entry
22): with modulus 0 both procedures, for encryption and for decryption, fail at their first MODEXP,
and the access sequence of R239's procedure is R238's. -/
def Obligations.HostRsaMeetsContract : Prop :=
  ∀ (polls : Nat → Nat) (x n : Word) (s : State), s.pending = none →
    (∀ U : List (BitVec 16),
      (hostRsaEncrypt polls x n U s).map Prod.fst = rsaEncrypt x n U)
    ∧ ∀ B : List Byte, (hostRsaDecrypt polls x n B s).map Prod.fst = rsaDecrypt x n B

/-- R239: RsaDecrypt inverts RsaEncrypt when every code unit is below the modulus and the exponents are
inverse on the values below it. -/
def Obligations.RsaTextRoundTrip : Prop :=
  ∀ (e d n : Word) (U : List (BitVec 16)),
    (∀ u ∈ U, u.toNat < n.toNat) →
    (∀ x, x < n.toNat → x ^ (e.toNat * d.toNat) % n.toNat = x % n.toNat) →
      ∃ B, rsaEncrypt e n U = .ok B ∧ rsaDecrypt d n B = .ok U
end

