-- ==== Sys2Proof/Laws/Bits.lean ====
section
/-!
SUPPORT. What the bit-string operations of Machine/Bits.lean do, position by position (00_scope.md R8
to R11).
-/
namespace Sys2Proof.Machine

/-- A position is a bit counted from the most significant one (R8). -/
theorem pos_eq_getMsbD {w : Nat} (v : BitVec w) {k : Nat} (h1 : 1 ≤ k) (hk : k ≤ w) :
    pos v k = v.getMsbD (k - 1) := by
  have hlt : k - 1 < w := by omega
  simp only [pos, BitVec.getMsbD_eq_getLsbD, hlt, decide_true, Bool.true_and]
  congr 1
  omega

/-- R9: position k of a permuted value is position `T[k]` of the input. -/
theorem pos_permute {w m : Nat} (T : List Nat) (v : BitVec w) (hm : T.length = m) {k : Nat}
    (h1 : 1 ≤ k) (hk : k ≤ m) : pos (permute T v m) k = pos v (T.getD (k - 1) 0) := by
  subst hm
  have hlt : k - 1 < T.length := by omega
  rw [pos_eq_getMsbD _ h1 hk, permute]
  have hw : (T.map (pos v)).length = T.length := by simp
  rw [BitVec.getMsbD_setWidth]
  simp [List.getD_eq_getElem?_getD, List.getElem?_eq_getElem hlt]

/-- Two values are equal when all their positions are. -/
theorem eq_of_pos {w : Nat} {u v : BitVec w} (h : ∀ k, 1 ≤ k → k ≤ w → pos u k = pos v k) :
    u = v := by
  apply BitVec.eq_of_getLsbD_eq
  intro i hi
  have := h (w - i) (by omega) (by omega)
  simpa [pos, show w - (w - i) = i by omega] using this

/-- The two halves of a 64-bit value (R53). -/
@[simp] theorem hi32_append_lo32 (v : Block) : hi32 v ++ lo32 v = v := by
  apply BitVec.eq_of_getLsbD_eq
  intro i hi
  simp only [hi32, lo32, BitVec.getLsbD_append, BitVec.getLsbD_extractLsb']
  by_cases h : i < 32
  · simp [h]
  · simp [h, show i - 32 < 32 by omega, show 32 + (i - 32) = i by omega]

@[simp] theorem hi32_append (a b : Word) : hi32 (a ++ b) = a := by
  apply BitVec.eq_of_getLsbD_eq
  intro i hi
  simp only [hi32, BitVec.getLsbD_extractLsb', BitVec.getLsbD_append]
  simp [hi]

@[simp] theorem lo32_append (a b : Word) : lo32 (a ++ b) = b := by
  apply BitVec.eq_of_getLsbD_eq
  intro i hi
  simp only [lo32, BitVec.getLsbD_extractLsb', BitVec.getLsbD_append]
  simp [hi]

/-- R11: byte k of the block made of bytes b0..b7. -/
theorem byteOf_blockOf (b : Nat → Byte) {k : Nat} (hk : k < 8) : byteOf (blockOf b) k = b k := by
  apply BitVec.eq_of_getLsbD_eq
  intro i hi
  have hcases : k = 0 ∨ k = 1 ∨ k = 2 ∨ k = 3 ∨ k = 4 ∨ k = 5 ∨ k = 6 ∨ k = 7 := by omega
  rcases hcases with h | h | h | h | h | h | h | h <;> subst h <;>
    simp only [byteOf, blockOf, BitVec.getLsbD_extractLsb', BitVec.getLsbD_append, hi,
      decide_true, Bool.true_and] <;>
    repeat' split
  all_goals first | omega | (congr 1; omega)

/-- R11: a block is made of its own bytes. -/
theorem blockOf_byteOf (v : Block) : blockOf (byteOf v) = v := by
  apply BitVec.eq_of_getLsbD_eq
  intro i hi
  simp only [byteOf, blockOf, BitVec.getLsbD_extractLsb', BitVec.getLsbD_append]
  repeat' split
  all_goals
    rw [show (decide _ : Bool) = true from decide_eq_true (by omega), Bool.true_and]
    congr 1
    omega

/-- Blocks with equal bytes are equal. -/
theorem eq_of_byteOf {u v : Block} (h : ∀ k, k < 8 → byteOf u k = byteOf v k) : u = v := by
  rw [← blockOf_byteOf u, ← blockOf_byteOf v]
  simp only [blockOf, h 0 (by omega), h 1 (by omega), h 2 (by omega), h 3 (by omega),
    h 4 (by omega), h 5 (by omega), h 6 (by omega), h 7 (by omega)]

/-- R10: `rotl28` is the rotation of a 28-bit value to the left. -/
theorem rotl28_eq_rotateLeft (x : KeyHalf) {n : Nat} (hn : n ≤ 2) : rotl28 x n = x.rotateLeft n := by
  have h : n = 0 ∨ n = 1 ∨ n = 2 := by omega
  rcases h with h | h | h <;> subst h <;>
    simp [rotl28, BitVec.rotateLeft, BitVec.rotateLeftAux]

/-- R10: `rotr28` is the rotation of a 28-bit value to the right. -/
theorem rotr28_eq_rotateRight (x : KeyHalf) {n : Nat} (hn : n ≤ 2) :
    rotr28 x n = x.rotateRight n := by
  have h : n = 0 ∨ n = 1 ∨ n = 2 := by omega
  rcases h with h | h | h <;> subst h <;>
    simp [rotr28, BitVec.rotateRight, BitVec.rotateRightAux]

/-- A rotation to the left, bit by bit. -/
theorem getLsbD_rotl28 (x : KeyHalf) {n i : Nat} (hn : n ≤ 2) (hi : i < 28) :
    (rotl28 x n).getLsbD i = x.getLsbD ((i + 28 - n) % 28) := by
  simp only [rotl28, BitVec.getLsbD_or, BitVec.getLsbD_shiftLeft, BitVec.getLsbD_ushiftRight, hi,
    decide_true, Bool.true_and]
  by_cases h : i < n
  · rw [show (i + 28 - n) % 28 = 28 - n + i by omega]
    simp [h]
  · rw [show (i + 28 - n) % 28 = i - n by omega]
    by_cases h0 : n = 0
    · subst h0; simp
    · simp [h, show x.getLsbD (28 - n + i) = false from BitVec.getLsbD_of_ge _ _ (by omega)]

/-- A rotation to the right, bit by bit. -/
theorem getLsbD_rotr28 (x : KeyHalf) {n i : Nat} (hn : n ≤ 2) (hi : i < 28) :
    (rotr28 x n).getLsbD i = x.getLsbD ((i + n) % 28) := by
  simp only [rotr28, BitVec.getLsbD_or, BitVec.getLsbD_shiftLeft, BitVec.getLsbD_ushiftRight, hi,
    decide_true, Bool.true_and]
  by_cases h : i < 28 - n
  · rw [show (i + n) % 28 = n + i by omega]
    simp [h]
  · rw [show (i + n) % 28 = i - (28 - n) by omega]
    simp [h, show x.getLsbD (n + i) = false from BitVec.getLsbD_of_ge _ _ (by omega)]

/-- Position k of the low w bits of a block is position `64 - w + k` of the block (R8). -/
theorem pos_extractLsb'_zero {w : Nat} (x : Block) (hw : w ≤ 64) {k : Nat} (h1 : 1 ≤ k)
    (h2 : k ≤ w) : pos (x.extractLsb' 0 w) k = pos x (64 - w + k) := by
  simp only [pos, BitVec.getLsbD_extractLsb']
  rw [show 64 - (64 - w + k) = w - k by omega]
  simp
  omega

/-- The entries of a table whose entries are positions of a w-bit value (R9). -/
theorem getD_mem_range {T : List Nat} {m w : Nat} (hT : ∀ k ∈ T, 1 ≤ k ∧ k ≤ w)
    (hl : T.length = m) {k : Nat} (h1 : 1 ≤ k) (h2 : k ≤ m) :
    1 ≤ T.getD (k - 1) 0 ∧ T.getD (k - 1) 0 ≤ w := by
  apply hT
  rw [List.getD_eq_getElem _ _ (by omega)]
  exact List.getElem_mem _

end Sys2Proof.Machine
end

