-- ==== Sys2Proof/Laws/State.lean ====
section
/-!
SUPPORT. One lemma for each field of State and each update: what the field reads after the update.
-/
namespace Sys2Proof.Machine

/-! ### raiseError -/

@[simp] theorem State.raiseError_ieDone (s : State) (code : ErrCode) (info : Word) :
    (s.raiseError code info).ieDone = s.ieDone := rfl
@[simp] theorem State.raiseError_ieErr (s : State) (code : ErrCode) (info : Word) :
    (s.raiseError code info).ieErr = s.ieErr := rfl
@[simp] theorem State.raiseError_done (s : State) (code : ErrCode) (info : Word) :
    (s.raiseError code info).done = s.done := rfl
@[simp] theorem State.raiseError_err (s : State) (code : ErrCode) (info : Word) :
    (s.raiseError code info).err = true := rfl
@[simp] theorem State.raiseError_errCode (s : State) (code : ErrCode) (info : Word) :
    (s.raiseError code info).errCode = if s.err then s.errCode else code := rfl
@[simp] theorem State.raiseError_errInfo (s : State) (code : ErrCode) (info : Word) :
    (s.raiseError code info).errInfo = if s.err then s.errInfo else info := rfl
@[simp] theorem State.raiseError_pending (s : State) (code : ErrCode) (info : Word) :
    (s.raiseError code info).pending = s.pending := rfl
@[simp] theorem State.raiseError_key (s : State) (code : ErrCode) (info : Word) :
    (s.raiseError code info).key = s.key := rfl
@[simp] theorem State.raiseError_din (s : State) (code : ErrCode) (info : Word) :
    (s.raiseError code info).din = s.din := rfl
@[simp] theorem State.raiseError_dout (s : State) (code : ErrCode) (info : Word) :
    (s.raiseError code info).dout = s.dout := rfl
@[simp] theorem State.raiseError_chain (s : State) (code : ErrCode) (info : Word) :
    (s.raiseError code info).chain = s.chain := rfl
@[simp] theorem State.raiseError_ksC (s : State) (code : ErrCode) (info : Word) :
    (s.raiseError code info).ksC = s.ksC := rfl
@[simp] theorem State.raiseError_ksD (s : State) (code : ErrCode) (info : Word) :
    (s.raiseError code info).ksD = s.ksD := rfl
@[simp] theorem State.raiseError_sk (s : State) (code : ErrCode) (info : Word) :
    (s.raiseError code info).sk = s.sk := rfl
@[simp] theorem State.raiseError_halfL (s : State) (code : ErrCode) (info : Word) :
    (s.raiseError code info).halfL = s.halfL := rfl
@[simp] theorem State.raiseError_halfR (s : State) (code : ErrCode) (info : Word) :
    (s.raiseError code info).halfR = s.halfR := rfl
@[simp] theorem State.raiseError_rsaBase (s : State) (code : ErrCode) (info : Word) :
    (s.raiseError code info).rsaBase = s.rsaBase := rfl
@[simp] theorem State.raiseError_rsaExp (s : State) (code : ErrCode) (info : Word) :
    (s.raiseError code info).rsaExp = s.rsaExp := rfl
@[simp] theorem State.raiseError_rsaMod (s : State) (code : ErrCode) (info : Word) :
    (s.raiseError code info).rsaMod = s.rsaMod := rfl
@[simp] theorem State.raiseError_rsaRes (s : State) (code : ErrCode) (info : Word) :
    (s.raiseError code info).rsaRes = s.rsaRes := rfl
@[simp] theorem State.raiseError_events (s : State) (code : ErrCode) (info : Word) :
    (s.raiseError code info).events = s.events := rfl
@[simp] theorem State.raiseError_response (s : State) (code : ErrCode) (info : Word) :
    (s.raiseError code info).response = s.response := rfl
@[simp] theorem State.raiseError_entropyDraws (s : State) (code : ErrCode) (info : Word) :
    (s.raiseError code info).entropyDraws = s.entropyDraws := rfl
@[simp] theorem State.raiseError_busyReads (s : State) (code : ErrCode) (info : Word) :
    (s.raiseError code info).busyReads = s.busyReads := rfl

/-! ### clearError -/

@[simp] theorem State.clearError_ieDone (s : State) : s.clearError.ieDone = s.ieDone := rfl
@[simp] theorem State.clearError_ieErr (s : State) : s.clearError.ieErr = s.ieErr := rfl
@[simp] theorem State.clearError_done (s : State) : s.clearError.done = s.done := rfl
@[simp] theorem State.clearError_err (s : State) : s.clearError.err = false := rfl
@[simp] theorem State.clearError_errCode (s : State) : s.clearError.errCode = .none := rfl
@[simp] theorem State.clearError_errInfo (s : State) : s.clearError.errInfo = 0#32 := rfl
@[simp] theorem State.clearError_pending (s : State) : s.clearError.pending = s.pending := rfl
@[simp] theorem State.clearError_key (s : State) : s.clearError.key = s.key := rfl
@[simp] theorem State.clearError_din (s : State) : s.clearError.din = s.din := rfl
@[simp] theorem State.clearError_dout (s : State) : s.clearError.dout = s.dout := rfl
@[simp] theorem State.clearError_chain (s : State) : s.clearError.chain = s.chain := rfl
@[simp] theorem State.clearError_ksC (s : State) : s.clearError.ksC = s.ksC := rfl
@[simp] theorem State.clearError_ksD (s : State) : s.clearError.ksD = s.ksD := rfl
@[simp] theorem State.clearError_sk (s : State) : s.clearError.sk = s.sk := rfl
@[simp] theorem State.clearError_halfL (s : State) : s.clearError.halfL = s.halfL := rfl
@[simp] theorem State.clearError_halfR (s : State) : s.clearError.halfR = s.halfR := rfl
@[simp] theorem State.clearError_rsaBase (s : State) : s.clearError.rsaBase = s.rsaBase := rfl
@[simp] theorem State.clearError_rsaExp (s : State) : s.clearError.rsaExp = s.rsaExp := rfl
@[simp] theorem State.clearError_rsaMod (s : State) : s.clearError.rsaMod = s.rsaMod := rfl
@[simp] theorem State.clearError_rsaRes (s : State) : s.clearError.rsaRes = s.rsaRes := rfl
@[simp] theorem State.clearError_events (s : State) : s.clearError.events = s.events := rfl
@[simp] theorem State.clearError_response (s : State) : s.clearError.response = s.response := rfl
@[simp] theorem State.clearError_entropyDraws (s : State) :
    s.clearError.entropyDraws = s.entropyDraws := rfl
@[simp] theorem State.clearError_busyReads (s : State) : s.clearError.busyReads = s.busyReads := rfl

/-! ### clearDone -/

@[simp] theorem State.clearDone_ieDone (s : State) : s.clearDone.ieDone = s.ieDone := rfl
@[simp] theorem State.clearDone_ieErr (s : State) : s.clearDone.ieErr = s.ieErr := rfl
@[simp] theorem State.clearDone_done (s : State) : s.clearDone.done = false := rfl
@[simp] theorem State.clearDone_err (s : State) : s.clearDone.err = s.err := rfl
@[simp] theorem State.clearDone_errCode (s : State) : s.clearDone.errCode = s.errCode := rfl
@[simp] theorem State.clearDone_errInfo (s : State) : s.clearDone.errInfo = s.errInfo := rfl
@[simp] theorem State.clearDone_pending (s : State) : s.clearDone.pending = s.pending := rfl
@[simp] theorem State.clearDone_key (s : State) : s.clearDone.key = s.key := rfl
@[simp] theorem State.clearDone_din (s : State) : s.clearDone.din = s.din := rfl
@[simp] theorem State.clearDone_dout (s : State) : s.clearDone.dout = s.dout := rfl
@[simp] theorem State.clearDone_chain (s : State) : s.clearDone.chain = s.chain := rfl
@[simp] theorem State.clearDone_ksC (s : State) : s.clearDone.ksC = s.ksC := rfl
@[simp] theorem State.clearDone_ksD (s : State) : s.clearDone.ksD = s.ksD := rfl
@[simp] theorem State.clearDone_sk (s : State) : s.clearDone.sk = s.sk := rfl
@[simp] theorem State.clearDone_halfL (s : State) : s.clearDone.halfL = s.halfL := rfl
@[simp] theorem State.clearDone_halfR (s : State) : s.clearDone.halfR = s.halfR := rfl
@[simp] theorem State.clearDone_rsaBase (s : State) : s.clearDone.rsaBase = s.rsaBase := rfl
@[simp] theorem State.clearDone_rsaExp (s : State) : s.clearDone.rsaExp = s.rsaExp := rfl
@[simp] theorem State.clearDone_rsaMod (s : State) : s.clearDone.rsaMod = s.rsaMod := rfl
@[simp] theorem State.clearDone_rsaRes (s : State) : s.clearDone.rsaRes = s.rsaRes := rfl
@[simp] theorem State.clearDone_events (s : State) : s.clearDone.events = s.events := rfl
@[simp] theorem State.clearDone_response (s : State) : s.clearDone.response = s.response := rfl
@[simp] theorem State.clearDone_entropyDraws (s : State) :
    s.clearDone.entropyDraws = s.entropyDraws := rfl
@[simp] theorem State.clearDone_busyReads (s : State) : s.clearDone.busyReads = s.busyReads := rfl

/-! ### accept -/

@[simp] theorem State.accept_ieDone (s : State) (v : Word) : (s.accept v).ieDone = s.ieDone := rfl
@[simp] theorem State.accept_ieErr (s : State) (v : Word) : (s.accept v).ieErr = s.ieErr := rfl
@[simp] theorem State.accept_done (s : State) (v : Word) : (s.accept v).done = s.done := rfl
@[simp] theorem State.accept_err (s : State) (v : Word) : (s.accept v).err = s.err := rfl
@[simp] theorem State.accept_errCode (s : State) (v : Word) :
    (s.accept v).errCode = s.errCode := rfl
@[simp] theorem State.accept_errInfo (s : State) (v : Word) :
    (s.accept v).errInfo = s.errInfo := rfl
@[simp] theorem State.accept_pending (s : State) (v : Word) : (s.accept v).pending = some v := rfl
@[simp] theorem State.accept_key (s : State) (v : Word) : (s.accept v).key = s.key := rfl
@[simp] theorem State.accept_din (s : State) (v : Word) : (s.accept v).din = s.din := rfl
@[simp] theorem State.accept_dout (s : State) (v : Word) : (s.accept v).dout = s.dout := rfl
@[simp] theorem State.accept_chain (s : State) (v : Word) : (s.accept v).chain = s.chain := rfl
@[simp] theorem State.accept_ksC (s : State) (v : Word) : (s.accept v).ksC = s.ksC := rfl
@[simp] theorem State.accept_ksD (s : State) (v : Word) : (s.accept v).ksD = s.ksD := rfl
@[simp] theorem State.accept_sk (s : State) (v : Word) : (s.accept v).sk = s.sk := rfl
@[simp] theorem State.accept_halfL (s : State) (v : Word) : (s.accept v).halfL = s.halfL := rfl
@[simp] theorem State.accept_halfR (s : State) (v : Word) : (s.accept v).halfR = s.halfR := rfl
@[simp] theorem State.accept_rsaBase (s : State) (v : Word) :
    (s.accept v).rsaBase = s.rsaBase := rfl
@[simp] theorem State.accept_rsaExp (s : State) (v : Word) : (s.accept v).rsaExp = s.rsaExp := rfl
@[simp] theorem State.accept_rsaMod (s : State) (v : Word) : (s.accept v).rsaMod = s.rsaMod := rfl
@[simp] theorem State.accept_rsaRes (s : State) (v : Word) : (s.accept v).rsaRes = s.rsaRes := rfl
@[simp] theorem State.accept_events (s : State) (v : Word) : (s.accept v).events = s.events := rfl
@[simp] theorem State.accept_response (s : State) (v : Word) :
    (s.accept v).response = s.response := rfl
@[simp] theorem State.accept_entropyDraws (s : State) (v : Word) :
    (s.accept v).entropyDraws = s.entropyDraws := rfl
@[simp] theorem State.accept_busyReads (s : State) (v : Word) :
    (s.accept v).busyReads = s.busyReads := rfl

/-! ### complete -/

@[simp] theorem State.complete_ieDone (s : State) : s.complete.ieDone = s.ieDone := rfl
@[simp] theorem State.complete_ieErr (s : State) : s.complete.ieErr = s.ieErr := rfl
@[simp] theorem State.complete_done (s : State) : s.complete.done = true := rfl
@[simp] theorem State.complete_err (s : State) : s.complete.err = s.err := rfl
@[simp] theorem State.complete_errCode (s : State) : s.complete.errCode = s.errCode := rfl
@[simp] theorem State.complete_errInfo (s : State) : s.complete.errInfo = s.errInfo := rfl
@[simp] theorem State.complete_pending (s : State) : s.complete.pending = none := rfl
@[simp] theorem State.complete_key (s : State) : s.complete.key = s.key := rfl
@[simp] theorem State.complete_din (s : State) : s.complete.din = s.din := rfl
@[simp] theorem State.complete_dout (s : State) : s.complete.dout = s.dout := rfl
@[simp] theorem State.complete_chain (s : State) : s.complete.chain = s.chain := rfl
@[simp] theorem State.complete_ksC (s : State) : s.complete.ksC = s.ksC := rfl
@[simp] theorem State.complete_ksD (s : State) : s.complete.ksD = s.ksD := rfl
@[simp] theorem State.complete_sk (s : State) : s.complete.sk = s.sk := rfl
@[simp] theorem State.complete_halfL (s : State) : s.complete.halfL = s.halfL := rfl
@[simp] theorem State.complete_halfR (s : State) : s.complete.halfR = s.halfR := rfl
@[simp] theorem State.complete_rsaBase (s : State) : s.complete.rsaBase = s.rsaBase := rfl
@[simp] theorem State.complete_rsaExp (s : State) : s.complete.rsaExp = s.rsaExp := rfl
@[simp] theorem State.complete_rsaMod (s : State) : s.complete.rsaMod = s.rsaMod := rfl
@[simp] theorem State.complete_rsaRes (s : State) : s.complete.rsaRes = s.rsaRes := rfl
@[simp] theorem State.complete_events (s : State) : s.complete.events = s.events := rfl
@[simp] theorem State.complete_response (s : State) : s.complete.response = s.response := rfl
@[simp] theorem State.complete_entropyDraws (s : State) :
    s.complete.entropyDraws = s.entropyDraws := rfl
@[simp] theorem State.complete_busyReads (s : State) : s.complete.busyReads = s.busyReads := rfl

/-! ### reject -/

@[simp] theorem State.reject_ieDone (s : State) (code : ErrCode) (info : Word) :
    (s.reject code info).ieDone = s.ieDone := rfl
@[simp] theorem State.reject_ieErr (s : State) (code : ErrCode) (info : Word) :
    (s.reject code info).ieErr = s.ieErr := rfl
@[simp] theorem State.reject_done (s : State) (code : ErrCode) (info : Word) :
    (s.reject code info).done = false := rfl
@[simp] theorem State.reject_err (s : State) (code : ErrCode) (info : Word) :
    (s.reject code info).err = true := rfl
@[simp] theorem State.reject_errCode (s : State) (code : ErrCode) (info : Word) :
    (s.reject code info).errCode = if s.err then s.errCode else code := rfl
@[simp] theorem State.reject_errInfo (s : State) (code : ErrCode) (info : Word) :
    (s.reject code info).errInfo = if s.err then s.errInfo else info := rfl
@[simp] theorem State.reject_pending (s : State) (code : ErrCode) (info : Word) :
    (s.reject code info).pending = none := rfl
@[simp] theorem State.reject_key (s : State) (code : ErrCode) (info : Word) :
    (s.reject code info).key = s.key := rfl
@[simp] theorem State.reject_din (s : State) (code : ErrCode) (info : Word) :
    (s.reject code info).din = s.din := rfl
@[simp] theorem State.reject_dout (s : State) (code : ErrCode) (info : Word) :
    (s.reject code info).dout = s.dout := rfl
@[simp] theorem State.reject_chain (s : State) (code : ErrCode) (info : Word) :
    (s.reject code info).chain = s.chain := rfl
@[simp] theorem State.reject_ksC (s : State) (code : ErrCode) (info : Word) :
    (s.reject code info).ksC = s.ksC := rfl
@[simp] theorem State.reject_ksD (s : State) (code : ErrCode) (info : Word) :
    (s.reject code info).ksD = s.ksD := rfl
@[simp] theorem State.reject_sk (s : State) (code : ErrCode) (info : Word) :
    (s.reject code info).sk = s.sk := rfl
@[simp] theorem State.reject_halfL (s : State) (code : ErrCode) (info : Word) :
    (s.reject code info).halfL = s.halfL := rfl
@[simp] theorem State.reject_halfR (s : State) (code : ErrCode) (info : Word) :
    (s.reject code info).halfR = s.halfR := rfl
@[simp] theorem State.reject_rsaBase (s : State) (code : ErrCode) (info : Word) :
    (s.reject code info).rsaBase = s.rsaBase := rfl
@[simp] theorem State.reject_rsaExp (s : State) (code : ErrCode) (info : Word) :
    (s.reject code info).rsaExp = s.rsaExp := rfl
@[simp] theorem State.reject_rsaMod (s : State) (code : ErrCode) (info : Word) :
    (s.reject code info).rsaMod = s.rsaMod := rfl
@[simp] theorem State.reject_rsaRes (s : State) (code : ErrCode) (info : Word) :
    (s.reject code info).rsaRes = s.rsaRes := rfl
@[simp] theorem State.reject_events (s : State) (code : ErrCode) (info : Word) :
    (s.reject code info).events = s.events := rfl
@[simp] theorem State.reject_response (s : State) (code : ErrCode) (info : Word) :
    (s.reject code info).response = s.response := rfl
@[simp] theorem State.reject_entropyDraws (s : State) (code : ErrCode) (info : Word) :
    (s.reject code info).entropyDraws = s.entropyDraws := rfl
@[simp] theorem State.reject_busyReads (s : State) (code : ErrCode) (info : Word) :
    (s.reject code info).busyReads = s.busyReads := rfl

/-! ### setDout -/

@[simp] theorem State.setDout_ieDone (s : State) (v : Block) :
    (s.setDout v).ieDone = s.ieDone := rfl
@[simp] theorem State.setDout_ieErr (s : State) (v : Block) : (s.setDout v).ieErr = s.ieErr := rfl
@[simp] theorem State.setDout_done (s : State) (v : Block) : (s.setDout v).done = s.done := rfl
@[simp] theorem State.setDout_err (s : State) (v : Block) : (s.setDout v).err = s.err := rfl
@[simp] theorem State.setDout_errCode (s : State) (v : Block) :
    (s.setDout v).errCode = s.errCode := rfl
@[simp] theorem State.setDout_errInfo (s : State) (v : Block) :
    (s.setDout v).errInfo = s.errInfo := rfl
@[simp] theorem State.setDout_pending (s : State) (v : Block) :
    (s.setDout v).pending = s.pending := rfl
@[simp] theorem State.setDout_key (s : State) (v : Block) : (s.setDout v).key = s.key := rfl
@[simp] theorem State.setDout_din (s : State) (v : Block) : (s.setDout v).din = s.din := rfl
@[simp] theorem State.setDout_dout (s : State) (v : Block) : (s.setDout v).dout = v := rfl
@[simp] theorem State.setDout_chain (s : State) (v : Block) : (s.setDout v).chain = s.chain := rfl
@[simp] theorem State.setDout_ksC (s : State) (v : Block) : (s.setDout v).ksC = s.ksC := rfl
@[simp] theorem State.setDout_ksD (s : State) (v : Block) : (s.setDout v).ksD = s.ksD := rfl
@[simp] theorem State.setDout_sk (s : State) (v : Block) : (s.setDout v).sk = s.sk := rfl
@[simp] theorem State.setDout_halfL (s : State) (v : Block) : (s.setDout v).halfL = s.halfL := rfl
@[simp] theorem State.setDout_halfR (s : State) (v : Block) : (s.setDout v).halfR = s.halfR := rfl
@[simp] theorem State.setDout_rsaBase (s : State) (v : Block) :
    (s.setDout v).rsaBase = s.rsaBase := rfl
@[simp] theorem State.setDout_rsaExp (s : State) (v : Block) :
    (s.setDout v).rsaExp = s.rsaExp := rfl
@[simp] theorem State.setDout_rsaMod (s : State) (v : Block) :
    (s.setDout v).rsaMod = s.rsaMod := rfl
@[simp] theorem State.setDout_rsaRes (s : State) (v : Block) :
    (s.setDout v).rsaRes = s.rsaRes := rfl
@[simp] theorem State.setDout_events (s : State) (v : Block) :
    (s.setDout v).events = s.events := rfl
@[simp] theorem State.setDout_response (s : State) (v : Block) :
    (s.setDout v).response = s.response := rfl
@[simp] theorem State.setDout_entropyDraws (s : State) (v : Block) :
    (s.setDout v).entropyDraws = s.entropyDraws := rfl
@[simp] theorem State.setDout_busyReads (s : State) (v : Block) :
    (s.setDout v).busyReads = s.busyReads := rfl

/-! ### setChain -/

@[simp] theorem State.setChain_ieDone (s : State) (v : Block) :
    (s.setChain v).ieDone = s.ieDone := rfl
@[simp] theorem State.setChain_ieErr (s : State) (v : Block) : (s.setChain v).ieErr = s.ieErr := rfl
@[simp] theorem State.setChain_done (s : State) (v : Block) : (s.setChain v).done = s.done := rfl
@[simp] theorem State.setChain_err (s : State) (v : Block) : (s.setChain v).err = s.err := rfl
@[simp] theorem State.setChain_errCode (s : State) (v : Block) :
    (s.setChain v).errCode = s.errCode := rfl
@[simp] theorem State.setChain_errInfo (s : State) (v : Block) :
    (s.setChain v).errInfo = s.errInfo := rfl
@[simp] theorem State.setChain_pending (s : State) (v : Block) :
    (s.setChain v).pending = s.pending := rfl
@[simp] theorem State.setChain_key (s : State) (v : Block) : (s.setChain v).key = s.key := rfl
@[simp] theorem State.setChain_din (s : State) (v : Block) : (s.setChain v).din = s.din := rfl
@[simp] theorem State.setChain_dout (s : State) (v : Block) : (s.setChain v).dout = s.dout := rfl
@[simp] theorem State.setChain_chain (s : State) (v : Block) : (s.setChain v).chain = v := rfl
@[simp] theorem State.setChain_ksC (s : State) (v : Block) : (s.setChain v).ksC = s.ksC := rfl
@[simp] theorem State.setChain_ksD (s : State) (v : Block) : (s.setChain v).ksD = s.ksD := rfl
@[simp] theorem State.setChain_sk (s : State) (v : Block) : (s.setChain v).sk = s.sk := rfl
@[simp] theorem State.setChain_halfL (s : State) (v : Block) : (s.setChain v).halfL = s.halfL := rfl
@[simp] theorem State.setChain_halfR (s : State) (v : Block) : (s.setChain v).halfR = s.halfR := rfl
@[simp] theorem State.setChain_rsaBase (s : State) (v : Block) :
    (s.setChain v).rsaBase = s.rsaBase := rfl
@[simp] theorem State.setChain_rsaExp (s : State) (v : Block) :
    (s.setChain v).rsaExp = s.rsaExp := rfl
@[simp] theorem State.setChain_rsaMod (s : State) (v : Block) :
    (s.setChain v).rsaMod = s.rsaMod := rfl
@[simp] theorem State.setChain_rsaRes (s : State) (v : Block) :
    (s.setChain v).rsaRes = s.rsaRes := rfl
@[simp] theorem State.setChain_events (s : State) (v : Block) :
    (s.setChain v).events = s.events := rfl
@[simp] theorem State.setChain_response (s : State) (v : Block) :
    (s.setChain v).response = s.response := rfl
@[simp] theorem State.setChain_entropyDraws (s : State) (v : Block) :
    (s.setChain v).entropyDraws = s.entropyDraws := rfl
@[simp] theorem State.setChain_busyReads (s : State) (v : Block) :
    (s.setChain v).busyReads = s.busyReads := rfl

/-! ### setRsaRes -/

@[simp] theorem State.setRsaRes_ieDone (s : State) (v : Word) :
    (s.setRsaRes v).ieDone = s.ieDone := rfl
@[simp] theorem State.setRsaRes_ieErr (s : State) (v : Word) :
    (s.setRsaRes v).ieErr = s.ieErr := rfl
@[simp] theorem State.setRsaRes_done (s : State) (v : Word) : (s.setRsaRes v).done = s.done := rfl
@[simp] theorem State.setRsaRes_err (s : State) (v : Word) : (s.setRsaRes v).err = s.err := rfl
@[simp] theorem State.setRsaRes_errCode (s : State) (v : Word) :
    (s.setRsaRes v).errCode = s.errCode := rfl
@[simp] theorem State.setRsaRes_errInfo (s : State) (v : Word) :
    (s.setRsaRes v).errInfo = s.errInfo := rfl
@[simp] theorem State.setRsaRes_pending (s : State) (v : Word) :
    (s.setRsaRes v).pending = s.pending := rfl
@[simp] theorem State.setRsaRes_key (s : State) (v : Word) : (s.setRsaRes v).key = s.key := rfl
@[simp] theorem State.setRsaRes_din (s : State) (v : Word) : (s.setRsaRes v).din = s.din := rfl
@[simp] theorem State.setRsaRes_dout (s : State) (v : Word) : (s.setRsaRes v).dout = s.dout := rfl
@[simp] theorem State.setRsaRes_chain (s : State) (v : Word) :
    (s.setRsaRes v).chain = s.chain := rfl
@[simp] theorem State.setRsaRes_ksC (s : State) (v : Word) : (s.setRsaRes v).ksC = s.ksC := rfl
@[simp] theorem State.setRsaRes_ksD (s : State) (v : Word) : (s.setRsaRes v).ksD = s.ksD := rfl
@[simp] theorem State.setRsaRes_sk (s : State) (v : Word) : (s.setRsaRes v).sk = s.sk := rfl
@[simp] theorem State.setRsaRes_halfL (s : State) (v : Word) :
    (s.setRsaRes v).halfL = s.halfL := rfl
@[simp] theorem State.setRsaRes_halfR (s : State) (v : Word) :
    (s.setRsaRes v).halfR = s.halfR := rfl
@[simp] theorem State.setRsaRes_rsaBase (s : State) (v : Word) :
    (s.setRsaRes v).rsaBase = s.rsaBase := rfl
@[simp] theorem State.setRsaRes_rsaExp (s : State) (v : Word) :
    (s.setRsaRes v).rsaExp = s.rsaExp := rfl
@[simp] theorem State.setRsaRes_rsaMod (s : State) (v : Word) :
    (s.setRsaRes v).rsaMod = s.rsaMod := rfl
@[simp] theorem State.setRsaRes_rsaRes (s : State) (v : Word) : (s.setRsaRes v).rsaRes = v := rfl
@[simp] theorem State.setRsaRes_events (s : State) (v : Word) :
    (s.setRsaRes v).events = s.events := rfl
@[simp] theorem State.setRsaRes_response (s : State) (v : Word) :
    (s.setRsaRes v).response = s.response := rfl
@[simp] theorem State.setRsaRes_entropyDraws (s : State) (v : Word) :
    (s.setRsaRes v).entropyDraws = s.entropyDraws := rfl
@[simp] theorem State.setRsaRes_busyReads (s : State) (v : Word) :
    (s.setRsaRes v).busyReads = s.busyReads := rfl

/-! ### setDatapath -/

@[simp] theorem State.setDatapath_ieDone (s : State) (p : Datapath) :
    (s.setDatapath p).ieDone = s.ieDone := rfl
@[simp] theorem State.setDatapath_ieErr (s : State) (p : Datapath) :
    (s.setDatapath p).ieErr = s.ieErr := rfl
@[simp] theorem State.setDatapath_done (s : State) (p : Datapath) :
    (s.setDatapath p).done = s.done := rfl
@[simp] theorem State.setDatapath_err (s : State) (p : Datapath) :
    (s.setDatapath p).err = s.err := rfl
@[simp] theorem State.setDatapath_errCode (s : State) (p : Datapath) :
    (s.setDatapath p).errCode = s.errCode := rfl
@[simp] theorem State.setDatapath_errInfo (s : State) (p : Datapath) :
    (s.setDatapath p).errInfo = s.errInfo := rfl
@[simp] theorem State.setDatapath_pending (s : State) (p : Datapath) :
    (s.setDatapath p).pending = s.pending := rfl
@[simp] theorem State.setDatapath_key (s : State) (p : Datapath) :
    (s.setDatapath p).key = s.key := rfl
@[simp] theorem State.setDatapath_din (s : State) (p : Datapath) :
    (s.setDatapath p).din = s.din := rfl
@[simp] theorem State.setDatapath_dout (s : State) (p : Datapath) :
    (s.setDatapath p).dout = s.dout := rfl
@[simp] theorem State.setDatapath_chain (s : State) (p : Datapath) :
    (s.setDatapath p).chain = s.chain := rfl
@[simp] theorem State.setDatapath_ksC (s : State) (p : Datapath) :
    (s.setDatapath p).ksC = p.ksC := rfl
@[simp] theorem State.setDatapath_ksD (s : State) (p : Datapath) :
    (s.setDatapath p).ksD = p.ksD := rfl
@[simp] theorem State.setDatapath_sk (s : State) (p : Datapath) : (s.setDatapath p).sk = p.sk := rfl
@[simp] theorem State.setDatapath_halfL (s : State) (p : Datapath) :
    (s.setDatapath p).halfL = p.halfL := rfl
@[simp] theorem State.setDatapath_halfR (s : State) (p : Datapath) :
    (s.setDatapath p).halfR = p.halfR := rfl
@[simp] theorem State.setDatapath_rsaBase (s : State) (p : Datapath) :
    (s.setDatapath p).rsaBase = s.rsaBase := rfl
@[simp] theorem State.setDatapath_rsaExp (s : State) (p : Datapath) :
    (s.setDatapath p).rsaExp = s.rsaExp := rfl
@[simp] theorem State.setDatapath_rsaMod (s : State) (p : Datapath) :
    (s.setDatapath p).rsaMod = s.rsaMod := rfl
@[simp] theorem State.setDatapath_rsaRes (s : State) (p : Datapath) :
    (s.setDatapath p).rsaRes = s.rsaRes := rfl
@[simp] theorem State.setDatapath_events (s : State) (p : Datapath) :
    (s.setDatapath p).events = s.events := rfl
@[simp] theorem State.setDatapath_response (s : State) (p : Datapath) :
    (s.setDatapath p).response = s.response := rfl
@[simp] theorem State.setDatapath_entropyDraws (s : State) (p : Datapath) :
    (s.setDatapath p).entropyDraws = s.entropyDraws := rfl
@[simp] theorem State.setDatapath_busyReads (s : State) (p : Datapath) :
    (s.setDatapath p).busyReads = s.busyReads := rfl

/-! ### clearData -/

@[simp] theorem State.clearData_ieDone (s : State) : s.clearData.ieDone = s.ieDone := rfl
@[simp] theorem State.clearData_ieErr (s : State) : s.clearData.ieErr = s.ieErr := rfl
@[simp] theorem State.clearData_done (s : State) : s.clearData.done = s.done := rfl
@[simp] theorem State.clearData_err (s : State) : s.clearData.err = s.err := rfl
@[simp] theorem State.clearData_errCode (s : State) : s.clearData.errCode = s.errCode := rfl
@[simp] theorem State.clearData_errInfo (s : State) : s.clearData.errInfo = s.errInfo := rfl
@[simp] theorem State.clearData_pending (s : State) : s.clearData.pending = s.pending := rfl
@[simp] theorem State.clearData_key (s : State) : s.clearData.key = 0#64 := rfl
@[simp] theorem State.clearData_din (s : State) : s.clearData.din = 0#64 := rfl
@[simp] theorem State.clearData_dout (s : State) : s.clearData.dout = 0#64 := rfl
@[simp] theorem State.clearData_chain (s : State) : s.clearData.chain = 0#64 := rfl
@[simp] theorem State.clearData_ksC (s : State) : s.clearData.ksC = 0#28 := rfl
@[simp] theorem State.clearData_ksD (s : State) : s.clearData.ksD = 0#28 := rfl
@[simp] theorem State.clearData_sk (s : State) : s.clearData.sk = 0#48 := rfl
@[simp] theorem State.clearData_halfL (s : State) : s.clearData.halfL = 0#32 := rfl
@[simp] theorem State.clearData_halfR (s : State) : s.clearData.halfR = 0#32 := rfl
@[simp] theorem State.clearData_rsaBase (s : State) : s.clearData.rsaBase = 0#32 := rfl
@[simp] theorem State.clearData_rsaExp (s : State) : s.clearData.rsaExp = 0#32 := rfl
@[simp] theorem State.clearData_rsaMod (s : State) : s.clearData.rsaMod = 0#32 := rfl
@[simp] theorem State.clearData_rsaRes (s : State) : s.clearData.rsaRes = 0#32 := rfl
@[simp] theorem State.clearData_events (s : State) : s.clearData.events = s.events := rfl
@[simp] theorem State.clearData_response (s : State) : s.clearData.response = s.response := rfl
@[simp] theorem State.clearData_entropyDraws (s : State) :
    s.clearData.entropyDraws = s.entropyDraws := rfl
@[simp] theorem State.clearData_busyReads (s : State) : s.clearData.busyReads = s.busyReads := rfl

/-! ### noteDraw -/

@[simp] theorem State.noteDraw_ieDone (s : State) : s.noteDraw.ieDone = s.ieDone := rfl
@[simp] theorem State.noteDraw_ieErr (s : State) : s.noteDraw.ieErr = s.ieErr := rfl
@[simp] theorem State.noteDraw_done (s : State) : s.noteDraw.done = s.done := rfl
@[simp] theorem State.noteDraw_err (s : State) : s.noteDraw.err = s.err := rfl
@[simp] theorem State.noteDraw_errCode (s : State) : s.noteDraw.errCode = s.errCode := rfl
@[simp] theorem State.noteDraw_errInfo (s : State) : s.noteDraw.errInfo = s.errInfo := rfl
@[simp] theorem State.noteDraw_pending (s : State) : s.noteDraw.pending = s.pending := rfl
@[simp] theorem State.noteDraw_key (s : State) : s.noteDraw.key = s.key := rfl
@[simp] theorem State.noteDraw_din (s : State) : s.noteDraw.din = s.din := rfl
@[simp] theorem State.noteDraw_dout (s : State) : s.noteDraw.dout = s.dout := rfl
@[simp] theorem State.noteDraw_chain (s : State) : s.noteDraw.chain = s.chain := rfl
@[simp] theorem State.noteDraw_ksC (s : State) : s.noteDraw.ksC = s.ksC := rfl
@[simp] theorem State.noteDraw_ksD (s : State) : s.noteDraw.ksD = s.ksD := rfl
@[simp] theorem State.noteDraw_sk (s : State) : s.noteDraw.sk = s.sk := rfl
@[simp] theorem State.noteDraw_halfL (s : State) : s.noteDraw.halfL = s.halfL := rfl
@[simp] theorem State.noteDraw_halfR (s : State) : s.noteDraw.halfR = s.halfR := rfl
@[simp] theorem State.noteDraw_rsaBase (s : State) : s.noteDraw.rsaBase = s.rsaBase := rfl
@[simp] theorem State.noteDraw_rsaExp (s : State) : s.noteDraw.rsaExp = s.rsaExp := rfl
@[simp] theorem State.noteDraw_rsaMod (s : State) : s.noteDraw.rsaMod = s.rsaMod := rfl
@[simp] theorem State.noteDraw_rsaRes (s : State) : s.noteDraw.rsaRes = s.rsaRes := rfl
@[simp] theorem State.noteDraw_events (s : State) : s.noteDraw.events = s.events := rfl
@[simp] theorem State.noteDraw_response (s : State) : s.noteDraw.response = s.response := rfl
@[simp] theorem State.noteDraw_entropyDraws (s : State) :
    s.noteDraw.entropyDraws = s.entropyDraws + 1 := rfl
@[simp] theorem State.noteDraw_busyReads (s : State) : s.noteDraw.busyReads = s.busyReads := rfl

/-! ### noteBusyRead -/

@[simp] theorem State.noteBusyRead_ieDone (s : State) : s.noteBusyRead.ieDone = s.ieDone := rfl
@[simp] theorem State.noteBusyRead_ieErr (s : State) : s.noteBusyRead.ieErr = s.ieErr := rfl
@[simp] theorem State.noteBusyRead_done (s : State) : s.noteBusyRead.done = s.done := rfl
@[simp] theorem State.noteBusyRead_err (s : State) : s.noteBusyRead.err = s.err := rfl
@[simp] theorem State.noteBusyRead_errCode (s : State) : s.noteBusyRead.errCode = s.errCode := rfl
@[simp] theorem State.noteBusyRead_errInfo (s : State) : s.noteBusyRead.errInfo = s.errInfo := rfl
@[simp] theorem State.noteBusyRead_pending (s : State) : s.noteBusyRead.pending = s.pending := rfl
@[simp] theorem State.noteBusyRead_key (s : State) : s.noteBusyRead.key = s.key := rfl
@[simp] theorem State.noteBusyRead_din (s : State) : s.noteBusyRead.din = s.din := rfl
@[simp] theorem State.noteBusyRead_dout (s : State) : s.noteBusyRead.dout = s.dout := rfl
@[simp] theorem State.noteBusyRead_chain (s : State) : s.noteBusyRead.chain = s.chain := rfl
@[simp] theorem State.noteBusyRead_ksC (s : State) : s.noteBusyRead.ksC = s.ksC := rfl
@[simp] theorem State.noteBusyRead_ksD (s : State) : s.noteBusyRead.ksD = s.ksD := rfl
@[simp] theorem State.noteBusyRead_sk (s : State) : s.noteBusyRead.sk = s.sk := rfl
@[simp] theorem State.noteBusyRead_halfL (s : State) : s.noteBusyRead.halfL = s.halfL := rfl
@[simp] theorem State.noteBusyRead_halfR (s : State) : s.noteBusyRead.halfR = s.halfR := rfl
@[simp] theorem State.noteBusyRead_rsaBase (s : State) : s.noteBusyRead.rsaBase = s.rsaBase := rfl
@[simp] theorem State.noteBusyRead_rsaExp (s : State) : s.noteBusyRead.rsaExp = s.rsaExp := rfl
@[simp] theorem State.noteBusyRead_rsaMod (s : State) : s.noteBusyRead.rsaMod = s.rsaMod := rfl
@[simp] theorem State.noteBusyRead_rsaRes (s : State) : s.noteBusyRead.rsaRes = s.rsaRes := rfl
@[simp] theorem State.noteBusyRead_events (s : State) : s.noteBusyRead.events = s.events := rfl
@[simp] theorem State.noteBusyRead_response (s : State) :
    s.noteBusyRead.response = s.response := rfl
@[simp] theorem State.noteBusyRead_entropyDraws (s : State) :
    s.noteBusyRead.entropyDraws = s.entropyDraws := rfl
@[simp] theorem State.noteBusyRead_busyReads (s : State) :
    s.noteBusyRead.busyReads = s.busyReads + 1 := rfl

/-! ### writeCtrl -/

@[simp] theorem State.writeCtrl_ieDone (s : State) (v : Word) :
    (s.writeCtrl v).ieDone = v.getLsbD 0 := rfl
@[simp] theorem State.writeCtrl_ieErr (s : State) (v : Word) :
    (s.writeCtrl v).ieErr = v.getLsbD 1 := rfl
@[simp] theorem State.writeCtrl_done (s : State) (v : Word) : (s.writeCtrl v).done = s.done := rfl
@[simp] theorem State.writeCtrl_err (s : State) (v : Word) : (s.writeCtrl v).err = s.err := rfl
@[simp] theorem State.writeCtrl_errCode (s : State) (v : Word) :
    (s.writeCtrl v).errCode = s.errCode := rfl
@[simp] theorem State.writeCtrl_errInfo (s : State) (v : Word) :
    (s.writeCtrl v).errInfo = s.errInfo := rfl
@[simp] theorem State.writeCtrl_pending (s : State) (v : Word) :
    (s.writeCtrl v).pending = s.pending := rfl
@[simp] theorem State.writeCtrl_key (s : State) (v : Word) : (s.writeCtrl v).key = s.key := rfl
@[simp] theorem State.writeCtrl_din (s : State) (v : Word) : (s.writeCtrl v).din = s.din := rfl
@[simp] theorem State.writeCtrl_dout (s : State) (v : Word) : (s.writeCtrl v).dout = s.dout := rfl
@[simp] theorem State.writeCtrl_chain (s : State) (v : Word) :
    (s.writeCtrl v).chain = s.chain := rfl
@[simp] theorem State.writeCtrl_ksC (s : State) (v : Word) : (s.writeCtrl v).ksC = s.ksC := rfl
@[simp] theorem State.writeCtrl_ksD (s : State) (v : Word) : (s.writeCtrl v).ksD = s.ksD := rfl
@[simp] theorem State.writeCtrl_sk (s : State) (v : Word) : (s.writeCtrl v).sk = s.sk := rfl
@[simp] theorem State.writeCtrl_halfL (s : State) (v : Word) :
    (s.writeCtrl v).halfL = s.halfL := rfl
@[simp] theorem State.writeCtrl_halfR (s : State) (v : Word) :
    (s.writeCtrl v).halfR = s.halfR := rfl
@[simp] theorem State.writeCtrl_rsaBase (s : State) (v : Word) :
    (s.writeCtrl v).rsaBase = s.rsaBase := rfl
@[simp] theorem State.writeCtrl_rsaExp (s : State) (v : Word) :
    (s.writeCtrl v).rsaExp = s.rsaExp := rfl
@[simp] theorem State.writeCtrl_rsaMod (s : State) (v : Word) :
    (s.writeCtrl v).rsaMod = s.rsaMod := rfl
@[simp] theorem State.writeCtrl_rsaRes (s : State) (v : Word) :
    (s.writeCtrl v).rsaRes = s.rsaRes := rfl
@[simp] theorem State.writeCtrl_events (s : State) (v : Word) :
    (s.writeCtrl v).events = s.events := rfl
@[simp] theorem State.writeCtrl_response (s : State) (v : Word) :
    (s.writeCtrl v).response = s.response := rfl
@[simp] theorem State.writeCtrl_entropyDraws (s : State) (v : Word) :
    (s.writeCtrl v).entropyDraws = s.entropyDraws := rfl
@[simp] theorem State.writeCtrl_busyReads (s : State) (v : Word) :
    (s.writeCtrl v).busyReads = s.busyReads := rfl

/-! ### respond -/

@[simp] theorem State.respond_ieDone (s : State) (r : BusResponse) :
    (s.respond r).ieDone = s.ieDone := rfl
@[simp] theorem State.respond_ieErr (s : State) (r : BusResponse) :
    (s.respond r).ieErr = s.ieErr := rfl
@[simp] theorem State.respond_done (s : State) (r : BusResponse) :
    (s.respond r).done = s.done := rfl
@[simp] theorem State.respond_err (s : State) (r : BusResponse) : (s.respond r).err = s.err := rfl
@[simp] theorem State.respond_errCode (s : State) (r : BusResponse) :
    (s.respond r).errCode = s.errCode := rfl
@[simp] theorem State.respond_errInfo (s : State) (r : BusResponse) :
    (s.respond r).errInfo = s.errInfo := rfl
@[simp] theorem State.respond_pending (s : State) (r : BusResponse) :
    (s.respond r).pending = s.pending := rfl
@[simp] theorem State.respond_key (s : State) (r : BusResponse) : (s.respond r).key = s.key := rfl
@[simp] theorem State.respond_din (s : State) (r : BusResponse) : (s.respond r).din = s.din := rfl
@[simp] theorem State.respond_dout (s : State) (r : BusResponse) :
    (s.respond r).dout = s.dout := rfl
@[simp] theorem State.respond_chain (s : State) (r : BusResponse) :
    (s.respond r).chain = s.chain := rfl
@[simp] theorem State.respond_ksC (s : State) (r : BusResponse) : (s.respond r).ksC = s.ksC := rfl
@[simp] theorem State.respond_ksD (s : State) (r : BusResponse) : (s.respond r).ksD = s.ksD := rfl
@[simp] theorem State.respond_sk (s : State) (r : BusResponse) : (s.respond r).sk = s.sk := rfl
@[simp] theorem State.respond_halfL (s : State) (r : BusResponse) :
    (s.respond r).halfL = s.halfL := rfl
@[simp] theorem State.respond_halfR (s : State) (r : BusResponse) :
    (s.respond r).halfR = s.halfR := rfl
@[simp] theorem State.respond_rsaBase (s : State) (r : BusResponse) :
    (s.respond r).rsaBase = s.rsaBase := rfl
@[simp] theorem State.respond_rsaExp (s : State) (r : BusResponse) :
    (s.respond r).rsaExp = s.rsaExp := rfl
@[simp] theorem State.respond_rsaMod (s : State) (r : BusResponse) :
    (s.respond r).rsaMod = s.rsaMod := rfl
@[simp] theorem State.respond_rsaRes (s : State) (r : BusResponse) :
    (s.respond r).rsaRes = s.rsaRes := rfl
@[simp] theorem State.respond_events (s : State) (r : BusResponse) :
    (s.respond r).events = s.events := rfl
@[simp] theorem State.respond_response (s : State) (r : BusResponse) :
    (s.respond r).response = some r := rfl
@[simp] theorem State.respond_entropyDraws (s : State) (r : BusResponse) :
    (s.respond r).entropyDraws = s.entropyDraws := rfl
@[simp] theorem State.respond_busyReads (s : State) (r : BusResponse) :
    (s.respond r).busyReads = s.busyReads := rfl

/-! ### schedule -/

@[simp] theorem State.schedule_ieDone (s : State) (es : List Event) :
    (s.schedule es).ieDone = s.ieDone := rfl
@[simp] theorem State.schedule_ieErr (s : State) (es : List Event) :
    (s.schedule es).ieErr = s.ieErr := rfl
@[simp] theorem State.schedule_done (s : State) (es : List Event) :
    (s.schedule es).done = s.done := rfl
@[simp] theorem State.schedule_err (s : State) (es : List Event) :
    (s.schedule es).err = s.err := rfl
@[simp] theorem State.schedule_errCode (s : State) (es : List Event) :
    (s.schedule es).errCode = s.errCode := rfl
@[simp] theorem State.schedule_errInfo (s : State) (es : List Event) :
    (s.schedule es).errInfo = s.errInfo := rfl
@[simp] theorem State.schedule_pending (s : State) (es : List Event) :
    (s.schedule es).pending = s.pending := rfl
@[simp] theorem State.schedule_key (s : State) (es : List Event) :
    (s.schedule es).key = s.key := rfl
@[simp] theorem State.schedule_din (s : State) (es : List Event) :
    (s.schedule es).din = s.din := rfl
@[simp] theorem State.schedule_dout (s : State) (es : List Event) :
    (s.schedule es).dout = s.dout := rfl
@[simp] theorem State.schedule_chain (s : State) (es : List Event) :
    (s.schedule es).chain = s.chain := rfl
@[simp] theorem State.schedule_ksC (s : State) (es : List Event) :
    (s.schedule es).ksC = s.ksC := rfl
@[simp] theorem State.schedule_ksD (s : State) (es : List Event) :
    (s.schedule es).ksD = s.ksD := rfl
@[simp] theorem State.schedule_sk (s : State) (es : List Event) : (s.schedule es).sk = s.sk := rfl
@[simp] theorem State.schedule_halfL (s : State) (es : List Event) :
    (s.schedule es).halfL = s.halfL := rfl
@[simp] theorem State.schedule_halfR (s : State) (es : List Event) :
    (s.schedule es).halfR = s.halfR := rfl
@[simp] theorem State.schedule_rsaBase (s : State) (es : List Event) :
    (s.schedule es).rsaBase = s.rsaBase := rfl
@[simp] theorem State.schedule_rsaExp (s : State) (es : List Event) :
    (s.schedule es).rsaExp = s.rsaExp := rfl
@[simp] theorem State.schedule_rsaMod (s : State) (es : List Event) :
    (s.schedule es).rsaMod = s.rsaMod := rfl
@[simp] theorem State.schedule_rsaRes (s : State) (es : List Event) :
    (s.schedule es).rsaRes = s.rsaRes := rfl
@[simp] theorem State.schedule_events (s : State) (es : List Event) :
    (s.schedule es).events = es := rfl
@[simp] theorem State.schedule_response (s : State) (es : List Event) :
    (s.schedule es).response = s.response := rfl
@[simp] theorem State.schedule_entropyDraws (s : State) (es : List Event) :
    (s.schedule es).entropyDraws = s.entropyDraws := rfl
@[simp] theorem State.schedule_busyReads (s : State) (es : List Event) :
    (s.schedule es).busyReads = s.busyReads := rfl

/-! ### placeWord -/

@[simp] theorem State.placeWord_ieDone (s : State) (w : Word) :
    (s.placeWord w).ieDone = s.ieDone := rfl
@[simp] theorem State.placeWord_ieErr (s : State) (w : Word) :
    (s.placeWord w).ieErr = s.ieErr := rfl
@[simp] theorem State.placeWord_done (s : State) (w : Word) : (s.placeWord w).done = s.done := rfl
@[simp] theorem State.placeWord_err (s : State) (w : Word) : (s.placeWord w).err = s.err := rfl
@[simp] theorem State.placeWord_errCode (s : State) (w : Word) :
    (s.placeWord w).errCode = s.errCode := rfl
@[simp] theorem State.placeWord_errInfo (s : State) (w : Word) :
    (s.placeWord w).errInfo = s.errInfo := rfl
@[simp] theorem State.placeWord_pending (s : State) (w : Word) :
    (s.placeWord w).pending = some w := rfl
@[simp] theorem State.placeWord_key (s : State) (w : Word) : (s.placeWord w).key = s.key := rfl
@[simp] theorem State.placeWord_din (s : State) (w : Word) : (s.placeWord w).din = s.din := rfl
@[simp] theorem State.placeWord_dout (s : State) (w : Word) : (s.placeWord w).dout = s.dout := rfl
@[simp] theorem State.placeWord_chain (s : State) (w : Word) :
    (s.placeWord w).chain = s.chain := rfl
@[simp] theorem State.placeWord_ksC (s : State) (w : Word) : (s.placeWord w).ksC = s.ksC := rfl
@[simp] theorem State.placeWord_ksD (s : State) (w : Word) : (s.placeWord w).ksD = s.ksD := rfl
@[simp] theorem State.placeWord_sk (s : State) (w : Word) : (s.placeWord w).sk = s.sk := rfl
@[simp] theorem State.placeWord_halfL (s : State) (w : Word) :
    (s.placeWord w).halfL = s.halfL := rfl
@[simp] theorem State.placeWord_halfR (s : State) (w : Word) :
    (s.placeWord w).halfR = s.halfR := rfl
@[simp] theorem State.placeWord_rsaBase (s : State) (w : Word) :
    (s.placeWord w).rsaBase = s.rsaBase := rfl
@[simp] theorem State.placeWord_rsaExp (s : State) (w : Word) :
    (s.placeWord w).rsaExp = s.rsaExp := rfl
@[simp] theorem State.placeWord_rsaMod (s : State) (w : Word) :
    (s.placeWord w).rsaMod = s.rsaMod := rfl
@[simp] theorem State.placeWord_rsaRes (s : State) (w : Word) :
    (s.placeWord w).rsaRes = s.rsaRes := rfl
@[simp] theorem State.placeWord_events (s : State) (w : Word) :
    (s.placeWord w).events = .engine :: s.events := rfl
@[simp] theorem State.placeWord_response (s : State) (w : Word) :
    (s.placeWord w).response = s.response := rfl
@[simp] theorem State.placeWord_entropyDraws (s : State) (w : Word) :
    (s.placeWord w).entropyDraws = s.entropyDraws := rfl
@[simp] theorem State.placeWord_busyReads (s : State) (w : Word) :
    (s.placeWord w).busyReads = s.busyReads := rfl

/-! ### applyReset -/

@[simp] theorem State.applyReset_ieDone (s : State) : s.applyReset.ieDone = false := rfl
@[simp] theorem State.applyReset_ieErr (s : State) : s.applyReset.ieErr = false := rfl
@[simp] theorem State.applyReset_done (s : State) : s.applyReset.done = false := rfl
@[simp] theorem State.applyReset_err (s : State) : s.applyReset.err = false := rfl
@[simp] theorem State.applyReset_errCode (s : State) : s.applyReset.errCode = .none := rfl
@[simp] theorem State.applyReset_errInfo (s : State) : s.applyReset.errInfo = 0#32 := rfl
@[simp] theorem State.applyReset_pending (s : State) : s.applyReset.pending = none := rfl
@[simp] theorem State.applyReset_key (s : State) : s.applyReset.key = 0#64 := rfl
@[simp] theorem State.applyReset_din (s : State) : s.applyReset.din = 0#64 := rfl
@[simp] theorem State.applyReset_dout (s : State) : s.applyReset.dout = 0#64 := rfl
@[simp] theorem State.applyReset_chain (s : State) : s.applyReset.chain = 0#64 := rfl
@[simp] theorem State.applyReset_ksC (s : State) : s.applyReset.ksC = 0#28 := rfl
@[simp] theorem State.applyReset_ksD (s : State) : s.applyReset.ksD = 0#28 := rfl
@[simp] theorem State.applyReset_sk (s : State) : s.applyReset.sk = 0#48 := rfl
@[simp] theorem State.applyReset_halfL (s : State) : s.applyReset.halfL = 0#32 := rfl
@[simp] theorem State.applyReset_halfR (s : State) : s.applyReset.halfR = 0#32 := rfl
@[simp] theorem State.applyReset_rsaBase (s : State) : s.applyReset.rsaBase = 0#32 := rfl
@[simp] theorem State.applyReset_rsaExp (s : State) : s.applyReset.rsaExp = 0#32 := rfl
@[simp] theorem State.applyReset_rsaMod (s : State) : s.applyReset.rsaMod = 0#32 := rfl
@[simp] theorem State.applyReset_rsaRes (s : State) : s.applyReset.rsaRes = 0#32 := rfl
@[simp] theorem State.applyReset_events (s : State) : s.applyReset.events = s.events := rfl
@[simp] theorem State.applyReset_response (s : State) : s.applyReset.response = s.response := rfl
@[simp] theorem State.applyReset_entropyDraws (s : State) :
    s.applyReset.entropyDraws = s.entropyDraws := rfl
@[simp] theorem State.applyReset_busyReads (s : State) : s.applyReset.busyReads = s.busyReads := rfl

end Sys2Proof.Machine
end

