-- ==== Sys2Proof/Laws/Bus.lean ====
section
/-!
SUPPORT. What the bus operations and one event of the schedule can do (20_memory.md R50 to R56,
60_exceptions.md R260).
-/
namespace Sys2Proof.Machine

/-- An address `BASE + off` lies in the window at offset `off` (R50). -/
@[simp] theorem windowOffset_base {off : Nat} (h : off < 0x100) :
    windowOffset (Config.base + off) = some off := by
  unfold windowOffset
  rw [if_pos (by omega)]
  congr 1
  omega

/-- Submit's three ways to end (R260). -/
theorem State.submit_cases (s : State) (v : Word) :
    (s.pending ≠ none ∧ s.submit v = s.raiseError .cmdWhileBusy v)
    ∨ (s.pending = none ∧ s.check v = .none ∧ s.submit v = s.clearDone.accept v)
    ∨ (s.pending = none ∧ s.check v ≠ .none ∧ s.submit v = s.reject (s.check v) v) := by
  unfold State.submit State.busy
  cases hp : s.pending with
  | some w => simp
  | none =>
    by_cases hc : s.check v = .none
    · simp [hc]
    · simp [hc]

/-- What a write at an aligned offset can do (R56). -/
theorem State.busWrite_cases (s : State) (off : Nat) (v : Word) :
    (off = 0x04 ∧ s.busWrite off v = s.writeCtrl v)
    ∨ (off = 0x08 ∧ s.busWrite off v = s.writeStatus v)
    ∨ (off = 0x0C ∧ s.busWrite off v = s.submit v)
    ∨ (isWritableData off = true ∧ s.pending ≠ none
        ∧ s.busWrite off v = s.raiseError .writeWhileBusy (BitVec.ofNat 32 off))
    ∨ (isWritableData off = true ∧ s.pending = none ∧ s.busWrite off v = s.writeData off v)
    ∨ (isWritableData off = false ∧ s.busWrite off v = s) := by
  unfold State.busWrite State.writeDataOrRefuse State.busy
  by_cases h4 : off = 0x04
  · simp [h4]
  by_cases h8 : off = 0x08
  · simp [h8]
  by_cases hc : off = 0x0C
  · simp [hc]
  cases hw : isWritableData off with
  | false => simp [h4, h8, hc]
  | true => cases hp : s.pending <;> simp [h4, h8, hc]

/-- What an event other than the engine's turn and the reset input can do: nothing but hand the host a
response, a counted busy read, or the effect of an aligned write. -/
theorem handleEvent_access_cases {e : Event} {s t : State} (h : handleEvent e s = .next t)
    (he : e ≠ .engine) (hr : e ≠ .reset) :
    (∃ r, t = s.respond r) ∨ (∃ r, t = s.noteBusyRead.respond r)
    ∨ (∃ off v, off < 0x100 ∧ off % 4 = 0 ∧ t = (s.busWrite off v).respond .written) := by
  cases e with
  | engine => exact absurd rfl he
  | reset => exact absurd rfl hr
  | read a z =>
    simp only [handleEvent, handleEventBy, State.hostRead] at h
    split at h
    · injection h with h
      subst h
      unfold State.readAt State.busRead
      split
      · split
        · exact .inr (.inl ⟨_, rfl⟩)
        · exact .inl ⟨_, rfl⟩
      · exact .inl ⟨_, rfl⟩
    · cases h
  | write a z v =>
    simp only [handleEvent, handleEventBy, State.hostWrite] at h
    split at h
    · rename_i off hoff
      injection h with h
      subst h
      have hlt : off < 0x100 := by
        unfold windowOffset at hoff
        split at hoff
        · injection hoff with hoff; omega
        · cases hoff
      unfold State.writeAt
      split
      · rename_i hal
        refine .inr (.inr ⟨off, v, hlt, ?_, rfl⟩)
        simp only [wordAligned, Bool.and_eq_true, decide_eq_true_eq] at hal
        exact hal.2
      · exact .inl ⟨_, rfl⟩
    · cases h

/-- The status fields, PENDING, RSA_MOD's guard and the model's own fields under a write to a data
register: only data registers change. -/
theorem State.writeData_frame (s : State) (off : Nat) (v : Word) :
    (s.writeData off v).ieDone = s.ieDone ∧ (s.writeData off v).ieErr = s.ieErr
    ∧ (s.writeData off v).done = s.done ∧ (s.writeData off v).err = s.err
    ∧ (s.writeData off v).errCode = s.errCode ∧ (s.writeData off v).errInfo = s.errInfo
    ∧ (s.writeData off v).pending = s.pending ∧ (s.writeData off v).dout = s.dout
    ∧ (s.writeData off v).rsaRes = s.rsaRes ∧ (s.writeData off v).events = s.events
    ∧ (s.writeData off v).response = s.response
    ∧ (s.writeData off v).entropyDraws = s.entropyDraws
    ∧ (s.writeData off v).busyReads = s.busyReads := by
  unfold State.writeData
  split <;> simp

/-- What a write to STATUS leaves (R24, R56). -/
theorem State.writeStatus_eq (s : State) (v : Word) :
    s.writeStatus v =
      { s with
        done := if v.getLsbD 1 then false else s.done
        err := if v.getLsbD 2 then false else s.err
        errCode := if v.getLsbD 2 then .none else s.errCode
        errInfo := if v.getLsbD 2 then 0#32 else s.errInfo } := by
  unfold State.writeStatus State.clearDone State.clearError
  cases v.getLsbD 1 <;> cases v.getLsbD 2 <;> rfl

/-- Every command answers a next state: a rejection, or its effect and then the common completion
(R260, R266). -/
theorem exec_next (i : Instr) (s : State) :
    (∃ c w, exec i s = .next (s.reject c w)) ∨ ∃ t : State, exec i s = .next t.complete := by
  cases i with
  | sbox n =>
    by_cases h : (Instr.sbox n).wellFormed = true
    · exact .inr ⟨_, if_pos h⟩
    · exact .inl ⟨_, _, if_neg h⟩
  | ksEncStep n =>
    by_cases h : (Instr.ksEncStep n).wellFormed = true
    · exact .inr ⟨_, if_pos h⟩
    · exact .inl ⟨_, _, if_neg h⟩
  | ksDecStep n =>
    by_cases h : (Instr.ksDecStep n).wellFormed = true
    · exact .inr ⟨_, if_pos h⟩
    · exact .inl ⟨_, _, if_neg h⟩
  | pad n =>
    by_cases h : (Instr.pad n).wellFormed = true
    · exact .inr ⟨_, if_pos h⟩
    · exact .inl ⟨_, _, if_neg h⟩
  | modexp =>
    by_cases h : s.rsaMod = 0#32
    · exact .inl ⟨_, _, if_pos h⟩
    · exact .inr ⟨_, if_neg h⟩
  | _ => exact .inr ⟨_, rfl⟩

end Sys2Proof.Machine
end

