-- ==== Sys2Proof/Laws/Cipher.lean ====
section
/-!
SUPPORT. What the pieces of the block procedure do to the datapath registers (43_feistel.md R140,
R143, R150; 44_key_schedule.md R171).
-/
namespace Sys2Proof.Machine

/-- The row of an S-box lookup as a number (R118). -/
theorem sboxRow_eq (x : BitVec 6) : sboxRow x = x.toNat / 32 % 2 * 2 + x.toNat % 2 := by
  revert x
  decide

/-- The column of an S-box lookup as a number (R118). -/
theorem sboxCol_eq (x : BitVec 6) : sboxCol x = x.toNat / 2 % 16 := by
  revert x
  decide

/-- Chunk j of the substituted word (R140). -/
theorem substitute_extract (T : DesTables) (X : SubKey) {j : Nat} (hj : j < 8) :
    (substitute T X).extractLsb' (4 * (7 - j)) 4 = sboxChunk T X j := by
  apply BitVec.eq_of_getLsbD_eq
  intro i hi
  have hcases : j = 0 ∨ j = 1 ∨ j = 2 ∨ j = 3 ∨ j = 4 ∨ j = 5 ∨ j = 6 ∨ j = 7 := by omega
  rcases hcases with h | h | h | h | h | h | h | h <;> subst h <;>
    simp only [substitute, BitVec.getLsbD_extractLsb', BitVec.getLsbD_append, hi,
      decide_true, Bool.true_and] <;>
    repeat' split
  all_goals first | omega | (congr 1; omega)

/-- A key step leaves the halves of the block alone (R171). -/
@[simp] theorem keyStep_halfL (T : DesTables) (key : Block) (dir : Dir) (i : Nat) (p : Datapath) :
    (keyStep T key dir i p).halfL = p.halfL := rfl

@[simp] theorem keyStep_halfR (T : DesTables) (key : Block) (dir : Dir) (i : Nat) (p : Datapath) :
    (keyStep T key dir i p).halfR = p.halfR := rfl

/-- A round leaves the key schedule's registers alone (R143). -/
@[simp] theorem feistelRound_ksC (T : DesTables) (p : Datapath) : (feistelRound T p).ksC = p.ksC := rfl

@[simp] theorem feistelRound_ksD (T : DesTables) (p : Datapath) : (feistelRound T p).ksD = p.ksD := rfl

@[simp] theorem feistelRound_sk (T : DesTables) (p : Datapath) : (feistelRound T p).sk = p.sk := rfl

/-- A rotation by any amount, bit by bit (R10). -/
theorem getLsbD_rotateLeft_keyHalf (x : KeyHalf) (n : Nat) {i : Nat} (hi : i < 28) :
    (x.rotateLeft n).getLsbD i = x.getLsbD ((i + 28 - n % 28) % 28) := by
  rw [BitVec.getLsbD_rotateLeft]
  have : n % 28 < 28 := Nat.mod_lt _ (by omega)
  by_cases h : i < n % 28
  · rw [show (i + 28 - n % 28) % 28 = 28 - n % 28 + i by omega]
    simp [h]
  · rw [show (i + 28 - n % 28) % 28 = i - n % 28 by omega]
    simp [h, hi]

/-- Rotations to the left add up. -/
theorem rotl28_rotateLeft (x : KeyHalf) (a : Nat) {n : Nat} (hn : n ≤ 2) :
    rotl28 (x.rotateLeft a) n = x.rotateLeft (a + n) := by
  apply BitVec.eq_of_getLsbD_eq
  intro i hi
  rw [getLsbD_rotl28 _ hn hi, getLsbD_rotateLeft_keyHalf _ _ (Nat.mod_lt _ (by omega)),
    getLsbD_rotateLeft_keyHalf _ _ hi]
  congr 1
  omega

/-- A rotation to the right undoes one to the left. -/
theorem rotr28_rotateLeft (x : KeyHalf) {a n : Nat} (hn : n ≤ 2) (hna : n ≤ a) :
    rotr28 (x.rotateLeft a) n = x.rotateLeft (a - n) := by
  apply BitVec.eq_of_getLsbD_eq
  intro i hi
  rw [getLsbD_rotr28 _ hn hi, getLsbD_rotateLeft_keyHalf _ _ (Nat.mod_lt _ (by omega)),
    getLsbD_rotateLeft_keyHalf _ _ hi]
  congr 1
  omega

end Sys2Proof.Machine
end

