-- ==== Sys2Proof/Laws/Decode.lean ====
section
/-!
SUPPORT. The fields of a command word (30_encoding.md R80, R83).
-/
namespace Sys2Proof

@[simp] theorem opcField_commandWord (opc imm : Byte) : opcField (commandWord opc imm) = opc := by
  apply BitVec.eq_of_getLsbD_eq
  intro i hi
  simp only [opcField, commandWord, BitVec.getLsbD_extractLsb', BitVec.getLsbD_append]
  simp [hi]

@[simp] theorem immField_commandWord (opc imm : Byte) : immField (commandWord opc imm) = imm := by
  apply BitVec.eq_of_getLsbD_eq
  intro i hi
  simp only [immField, commandWord, BitVec.getLsbD_extractLsb', BitVec.getLsbD_append]
  simp [hi]

@[simp] theorem rsvField_commandWord (opc imm : Byte) : rsvField (commandWord opc imm) = 0#16 := by
  apply BitVec.eq_of_getLsbD_eq
  intro i hi
  simp only [rsvField, commandWord, BitVec.getLsbD_extractLsb', BitVec.getLsbD_append]
  simp [show ¬ 16 + i < 8 by omega, show ¬ 16 + i - 8 < 8 by omega]

/-- A word with RSV zero is the command word of its own two other fields. -/
theorem commandWord_of_fields {w : Word} (h : rsvField w = 0#16) :
    commandWord (opcField w) (immField w) = w := by
  apply BitVec.eq_of_getLsbD_eq
  intro i hi
  have hr : ∀ j, j < 16 → w.getLsbD (16 + j) = false := by
    intro j hj
    have := congrArg (fun v => v.getLsbD j) h
    simpa [rsvField, hj] using this
  simp only [opcField, immField, commandWord, BitVec.getLsbD_extractLsb', BitVec.getLsbD_append]
  by_cases h8 : i < 8
  · simp [h8]
  · by_cases h16 : i < 16
    · simp [h8, show i - 8 < 8 by omega, show 8 + (i - 8) = i by omega]
    · have := hr (i - 16) (by omega)
      rw [show 16 + (i - 16) = i by omega] at this
      simp [h8, show ¬ i - 8 < 8 by omega, this]

/-- What a plain decoding answers. -/
theorem decodePlain_eq_ok {w : Word} {i j : Instr} :
    decodePlain w i = .ok j ↔ rsvField w = 0#16 ∧ immField w = 0#8 ∧ i = j := by
  unfold decodePlain
  split
  · simp_all
  · split <;> simp_all

/-- What a decoding with an operand answers. -/
theorem decodeWithOperand_eq_ok {w : Word} {f : Byte → Instr} {j : Instr} :
    decodeWithOperand w f = .ok j ↔ rsvField w = 0#16 ∧ f (immField w) = j := by
  unfold decodeWithOperand
  split <;> simp_all

end Sys2Proof
end

