-- ==== Sys2Proof/Machine/Instance.lean ====
section
/-!
DEFINITION. The machine over any `DesTables` instance: "A model takes `DesTables` as an argument"
(42_permutation_substitution.md R110; 92_eei_decisions.md D22). With `tables`, the default instance, it
is the machine of `exec` and `step`.
-/
namespace Sys2Proof.Machine

/-- What the completion step of the command `i` does on the machine that holds the instance `T`
(R110, R266). Commands that read no table are the same for every instance. -/
def execWith (T : DesTables) (i : Instr) (s : State) : Host.Outcome State Fault Refusal :=
  match i with
  | .nop => execNop s
  | .sreset => execSreset s
  | .ip => execIpWith T s
  | .fp => execFpWith T s
  | .expand => execExpandWith T s
  | .pperm => execPpermWith T s
  | .pc1 => execPc1With T s
  | .pc2 => execPc2With T s
  | .sbox n => execSboxWith T n s
  | .ffunc => execFfuncWith T s
  | .blkLoad => execBlkLoadWith T s
  | .round => execRoundWith T s
  | .blkStore => execBlkStoreWith T s
  | .encBlock => execEncBlockWith T s
  | .decBlock => execDecBlockWith T s
  | .ksEncStep k => execKsEncStepWith T k s
  | .ksDecStep k => execKsDecStepWith T k s
  | .cbcEnc => execCbcEncWith T s
  | .cbcDec => execCbcDecWith T s
  | .ivGen => execIvGen s
  | .pad n => execPad n s
  | .unpad => execUnpad s
  | .modexp => execModexp s

/-- One step of the machine that holds the instance `T` (R20, R62, R110). -/
def stepWith (T : DesTables) (s : State) : Host.Outcome State Fault Refusal :=
  stepScheduleBy (execWith T) s

/-- The machine that holds the instance `T`, as the host's interface takes it. -/
def coreWith (T : DesTables) : Host.Core where
  State := State
  Fault := Fault
  Refusal := Refusal
  step := stepWith T
  reset := State.reset

end Sys2Proof.Machine
end

