-- ==== Sys2Proof/Laws/Exec.lean ====
section
/-!
SUPPORT. What `Check` (60_exceptions.md R264) and the completion of a command (R266) can do; runs of
steps and sequences of commands.
-/
namespace Sys2Proof.Machine

/-- R264: what a passed check means. -/
theorem State.check_eq_none {s : State} {w : Word} (h : s.check w = .none) :
    ∃ i, decode w = .ok i ∧ i.wellFormed = true ∧ ¬ (i = .modexp ∧ s.rsaMod = 0#32) := by
  unfold State.check at h
  split at h
  · cases h
  · split at h
    · split at h
      · cases h
      · exact ⟨_, ‹_›, ‹_›, ‹_›⟩
    · cases h

/-- The machine of `exec` is the machine over the default instance (R110). -/
theorem exec_eq_execWith (i : Instr) (s : State) : exec i s = execWith tables i s := by
  cases i <;> rfl

/-- The machine of `step` is the machine over the default instance (R110). -/
theorem step_eq_stepWith (s : State) : step s = stepWith tables s := by
  have h : exec = execWith tables := funext fun i => funext fun s => exec_eq_execWith i s
  rw [step, stepSchedule, stepWith, h]

/-- The engine's turn with nothing pending (R278). -/
theorem engineTurn_none {s : State} (h : s.pending = none) : engineTurn s = .next s := by
  simp only [engineTurn, engineTurnBy, h]

/-- The engine's turn on a word that is a command (R266). -/
theorem engineTurn_some {s : State} {w : Word} {i : Instr} (h : s.pending = some w)
    (hd : decode w = .ok i) : engineTurn s = exec i s := by
  simp only [engineTurn, engineTurnBy, runWordBy, h, hd]

/-- A step with an event waiting (R62). -/
theorem step_cons {s : State} {e : Event} {rest : List Event} (h : s.events = e :: rest) :
    step s = handleEvent e (s.schedule rest) := by
  simp only [step, stepSchedule, stepScheduleBy, handleEvent, h]

/-- A step with no event waiting (log entry 3). -/
theorem step_nil {s : State} (h : s.events = []) : step s = engineTurn s := by
  simp only [step, stepSchedule, stepScheduleBy, engineTurn, h]

/-- An aligned write event in the window is the bus write at its offset (R50, R56). -/
theorem handleEvent_write {s : State} {off : Nat} {v : Word} (h : off < 0x100) (h4 : off % 4 = 0) :
    handleEvent (.write (Config.base + off) .word v) s = .next ((s.busWrite off v).respond .written) := by
  simp [handleEvent, handleEventBy, State.hostWrite, windowOffset_base h, State.writeAt, wordAligned, h4]

/-- An aligned read event in the window is the bus read at its offset (R50, R55). -/
theorem handleEvent_read {s : State} {off : Nat} (h : off < 0x100) (h4 : off % 4 = 0) :
    handleEvent (.read (Config.base + off) .word) s =
      .next ((s.busRead off).2.respond (.data (s.busRead off).1)) := by
  simp [handleEvent, handleEventBy, State.hostRead, windowOffset_base h, State.readAt, wordAligned, h4]

/-- A command answers a next state whose free-value counters and schedule only IV_GEN's draw moves. -/
theorem exec_model_fields {i : Instr} {s t : State} (h : exec i s = .next t) :
    t.events = s.events ∧ t.response = s.response ∧ t.busyReads = s.busyReads ∧ t.pending = none := by
  cases i <;>
    simp only [exec_eq_execWith, execWith, execNop, execSreset, execIpWith, execFpWith, execExpandWith,
      execPpermWith, execPc1With, execPc2With, execSboxWith, execFfuncWith, execBlkLoadWith,
      execRoundWith, execBlkStoreWith, execEncBlockWith, execDecBlockWith, execKsEncStepWith,
      execKsDecStepWith, execCbcEncWith, execCbcDecWith, execIvGen, execPad, execUnpad,
      execModexp] at h
  all_goals
    first
    | (injection h with h; subst h; simp [State.runBlock])
    | (split at h <;> (injection h with h; subst h; simp))

/-- One step of a run, through the host's interface. -/
theorem core_run_succ {k : Nat} {s t : State} (h : step s = .next t) :
    Host.Core.run Sys2Proof.core (k + 1) s = Host.Core.run Sys2Proof.core k t := by
  have general : ∀ (M : Host.Core) (a b : M.State), M.step a = .next b →
      M.run (k + 1) a = M.run k b := by
    intro M a b hab
    rw [Host.Core.run, hab]
  exact general Sys2Proof.core s t h

/-- A sequence of commands in two parts (R177's `A; B`). -/
theorem execAll_append (A B : List Instr) (s : State) :
    execAll (A ++ B) s =
      match execAll A s with
      | .next t => execAll B t
      | .fault f => .fault f
      | .refused r => .refused r := by
  induction A generalizing s with
  | nil => rfl
  | cons a A ih =>
    simp only [List.cons_append, execAll]
    split
    · exact ih _
    · rfl
    · rfl

end Sys2Proof.Machine
end

