-- ==== Sys2Proof/Laws/ModPow.lean ====
section
/-!
SUPPORT. Square and multiply computes the power (46_modexp.md R220).
-/
namespace Sys2Proof.Machine

/-- R220: `modPow` is the power, reduced, for every exponent of at most that many bits. -/
theorem modPow_eq (b m bits e : Nat) (h : e < 2 ^ bits) : modPow b m bits e = b ^ e % m := by
  induction bits generalizing e with
  | zero =>
    have : e = 0 := by simpa using h
    subst this
    simp [modPow]
  | succ n ih =>
    have := ih (e / 2) (by rw [Nat.pow_succ] at h; omega)
    simp only [modPow, squareMultiply, this, beq_iff_eq]
    split
    · conv_rhs => rw [show e = e / 2 + e / 2 + 1 by omega, Nat.pow_succ, Nat.pow_add]
      simp [Nat.mul_mod]
    · conv_rhs => rw [show e = e / 2 + e / 2 by omega, Nat.pow_add]
      simp [Nat.mul_mod]

end Sys2Proof.Machine
end

