-- ==== Sys2Proof/Laws/Padding.lean ====
section
/-!
SUPPORT. What the padding test says (45_chaining_padding.md R194, R195).
-/
namespace Sys2Proof.Machine

/-- R195: the block ends in v bytes of value v, for v in 1..8. -/
theorem endsInPadding_iff (x : Block) (v : Nat) :
    endsInPadding x v = true ↔
      1 ≤ v ∧ v ≤ 8 ∧ ∀ k, 8 - v ≤ k → k < 8 → (byteOf x k).toNat = v := by
  simp only [endsInPadding, Bool.and_eq_true, decide_eq_true_eq, List.all_eq_true, List.mem_range,
    Bool.or_eq_true, and_assoc]
  refine and_congr_right fun _ => and_congr_right fun _ => ⟨fun h k h1 h2 => ?_, fun h k hk => ?_⟩
  · rcases h k h2 with h | h
    · omega
    · exact h
  · by_cases h' : k < 8 - v
    · exact .inl h'
    · exact .inr (h k (by omega) hk)

/-- R194: the value of byte k of a padded block. -/
theorem byteOf_padBlock (x : Block) (n : Nat) {k : Nat} (hk : k < 8) :
    byteOf (padBlock x n) k = padByte x n k := byteOf_blockOf _ hk

end Sys2Proof.Machine
end

