-- ==== Sys2Proof/Laws/PerInstr.lean ====
section
/-!
SUPPORT. The family RoundTrip, one lemma for each constructor: decoding a command's word gives the
command back, whatever its operand (30_encoding.md R80 to R83).
-/
namespace Sys2Proof.Laws.RoundTrip

/-- Decoding the word of `i` gives `i`. -/
def Statement (i : Instr) : Prop := decode (encode i) = .ok i

theorem nop : Statement .nop := by unfold Statement; decide
theorem sreset : Statement .sreset := by unfold Statement; decide
theorem ip : Statement .ip := by unfold Statement; decide
theorem fp : Statement .fp := by unfold Statement; decide
theorem expand : Statement .expand := by unfold Statement; decide
theorem pperm : Statement .pperm := by unfold Statement; decide
theorem pc1 : Statement .pc1 := by unfold Statement; decide
theorem pc2 : Statement .pc2 := by unfold Statement; decide
theorem ffunc : Statement .ffunc := by unfold Statement; decide
theorem blkLoad : Statement .blkLoad := by unfold Statement; decide
theorem round : Statement .round := by unfold Statement; decide
theorem blkStore : Statement .blkStore := by unfold Statement; decide
theorem encBlock : Statement .encBlock := by unfold Statement; decide
theorem decBlock : Statement .decBlock := by unfold Statement; decide
theorem cbcEnc : Statement .cbcEnc := by unfold Statement; decide
theorem cbcDec : Statement .cbcDec := by unfold Statement; decide
theorem ivGen : Statement .ivGen := by unfold Statement; decide
theorem unpad : Statement .unpad := by unfold Statement; decide
theorem modexp : Statement .modexp := by unfold Statement; decide
theorem sbox (n : Byte) : Statement (.sbox n) := by simp [Statement, decode, encode, decodeWithOperand]
theorem ksEncStep (n : Byte) : Statement (.ksEncStep n) := by simp [Statement, decode, encode, decodeWithOperand]
theorem ksDecStep (n : Byte) : Statement (.ksDecStep n) := by simp [Statement, decode, encode, decodeWithOperand]
theorem pad (n : Byte) : Statement (.pad n) := by simp [Statement, decode, encode, decodeWithOperand]

end Sys2Proof.Laws.RoundTrip
end

