-- ==== Sys2Proof/Tests/Slice0.lean ====
section
/-!
SUPPORT. Tests of the model: what WellFormed refuses, every command's word written out from
30_encoding.md R80 and R83, the vectors of 95_test_vectors.md (cited as V<n>), and one witness for
each obligation that has hypotheses.
-/
namespace Sys2Proof.Tests

open Sys2Proof.Machine

/-- The state after a command; the state itself where there is none. -/
def after (i : Instr) (s : State) : State :=
  match exec i s with
  | .next t => t
  | .fault _ => s
  | .refused _ => s

/-- The state after a command on the machine over the instance `T`. -/
def afterWith (T : DesTables) (i : Instr) (s : State) : State :=
  match execWith T i s with
  | .next t => t
  | .fault _ => s
  | .refused _ => s

/-- The state after one step. -/
def stepped (s : State) : State :=
  match step s with
  | .next t => t
  | .fault _ => s
  | .refused _ => s

/-- The reset state with KEY = K and DIN = x (K is 133457799BBCDFF1, section 0 of the vectors). -/
def withDin (x : Block) : State := { State.reset with key := 0x133457799BBCDFF1#64, din := x }

/-- The reset state with the operands of MODEXP. -/
def withRsa (b e m : Word) : State := { State.reset with rsaBase := b, rsaExp := e, rsaMod := m }

/-- A state that is busy with ENC_BLOCK. -/
def busyState : State := { State.reset with pending := some 0x24#32 }

/-! ### WellFormed refuses -/

theorem test_sbox_8_ill_formed : (Instr.sbox 8).wellFormed = false := by decide
theorem test_ksEncStep_16_ill_formed : (Instr.ksEncStep 16).wellFormed = false := by decide
theorem test_ksDecStep_16_ill_formed : (Instr.ksDecStep 16).wellFormed = false := by decide
theorem test_pad_8_ill_formed : (Instr.pad 8).wellFormed = false := by decide

/-! ### Every command's word, bit by bit: RSV, IMM8, OPC (R80, R83) -/

theorem test_decode_nop : decode 0b00000000_00000000_00000000_00000000#32 = .ok .nop := by
  decide
theorem test_decode_sreset : decode 0b00000000_00000000_00000000_00000001#32 = .ok .sreset := by
  decide
theorem test_decode_ip : decode 0b00000000_00000000_00000000_00010000#32 = .ok .ip := by
  decide
theorem test_decode_fp : decode 0b00000000_00000000_00000000_00010001#32 = .ok .fp := by
  decide
theorem test_decode_expand : decode 0b00000000_00000000_00000000_00010010#32 = .ok .expand := by
  decide
theorem test_decode_pperm : decode 0b00000000_00000000_00000000_00010011#32 = .ok .pperm := by
  decide
theorem test_decode_pc1 : decode 0b00000000_00000000_00000000_00010100#32 = .ok .pc1 := by
  decide
theorem test_decode_pc2 : decode 0b00000000_00000000_00000000_00010101#32 = .ok .pc2 := by
  decide
theorem test_decode_sbox : decode 0b00000000_00000000_00000111_00010110#32 = .ok (.sbox 7) := by
  decide
theorem test_decode_ffunc : decode 0b00000000_00000000_00000000_00100000#32 = .ok .ffunc := by
  decide
theorem test_decode_blkLoad : decode 0b00000000_00000000_00000000_00100001#32 = .ok .blkLoad := by
  decide
theorem test_decode_round : decode 0b00000000_00000000_00000000_00100010#32 = .ok .round := by
  decide
theorem test_decode_blkStore : decode 0b00000000_00000000_00000000_00100011#32 = .ok .blkStore := by
  decide
theorem test_decode_encBlock : decode 0b00000000_00000000_00000000_00100100#32 = .ok .encBlock := by
  decide
theorem test_decode_decBlock : decode 0b00000000_00000000_00000000_00100101#32 = .ok .decBlock := by
  decide
theorem test_decode_ksEncStep : decode 0b00000000_00000000_00001111_00110000#32 = .ok (.ksEncStep 15) := by
  decide
theorem test_decode_ksDecStep : decode 0b00000000_00000000_00001001_00110001#32 = .ok (.ksDecStep 9) := by
  decide
theorem test_decode_cbcEnc : decode 0b00000000_00000000_00000000_01000000#32 = .ok .cbcEnc := by
  decide
theorem test_decode_cbcDec : decode 0b00000000_00000000_00000000_01000001#32 = .ok .cbcDec := by
  decide
theorem test_decode_ivGen : decode 0b00000000_00000000_00000000_01000010#32 = .ok .ivGen := by
  decide
theorem test_decode_pad : decode 0b00000000_00000000_00000101_01000011#32 = .ok (.pad 5) := by
  decide
theorem test_decode_unpad : decode 0b00000000_00000000_00000000_01000100#32 = .ok .unpad := by
  decide
theorem test_decode_modexp : decode 0b00000000_00000000_00000000_01010000#32 = .ok .modexp := by
  decide

/-- V3.30.10 to V3.30.14: no command, or one with an operand out of range. -/
theorem test_decode_refuses :
    decode 0x00000124#32 = .error .operandNotAllowed
    ∧ decode 0x00010024#32 = .error .reservedNotZero
    ∧ decode 0x00000002#32 = .error .unassignedOpcode
    ∧ decode 0x000000FF#32 = .error .unassignedOpcode
    ∧ decode 0x00010816#32 = .error .reservedNotZero := by
  decide

/-- V3.30.3 to V3.30.7, V3.30.14 to V3.30.17: Check's answer. -/
theorem test_check_order :
    State.reset.check 0x00000716#32 = .none
    ∧ State.reset.check 0x00000816#32 = .badOperand
    ∧ State.reset.check 0x00001030#32 = .badOperand
    ∧ State.reset.check 0x0000FF31#32 = .badOperand
    ∧ State.reset.check 0x00010816#32 = .illegalCmd
    ∧ State.reset.check 0x00000050#32 = .modZero
    ∧ State.reset.check 0x00000150#32 = .illegalCmd
    ∧ (withRsa 0 0 7).check 0x00000050#32 = .none := by
  decide

/-- The table's numbering of bits: the first bit is the least significant. -/
theorem test_decodeTableWord :
    decodeTableWord 32 0x716 = some (.sbox 7) ∧ decodeTableWord 32 0x2 = none := by
  decide

/-- R87: the assembler. -/
theorem test_assemble :
    assemble "SBOX 7" = .ok 0x00000716#32
    ∧ assemble "KS_DEC_STEP 0xFF" = .ok 0x0000FF31#32
    ∧ assemble "ENC_BLOCK" = .ok 0x00000024#32
    ∧ assemble "PAD 256" = .error .operandTooLarge
    ∧ assemble "NOP 1" = .error .unknownMnemonic := by
  decide +kernel

/-! ### The register window -/

/-- V3.20.5 to V3.20.7: the used widths. -/
theorem test_masks :
    (State.reset.busWrite 0x38 0xFFFFFFFF#32).readReg 0x38 = 0x0FFFFFFF#32
    ∧ (State.reset.busWrite 0x40 0xFFFFFFFF#32).readReg 0x40 = 0x0000FFFF#32
    ∧ (State.reset.busWrite 0x04 0xFFFFFFFF#32).readReg 0x04 = 3#32 := by
  decide

/-- V3.20.4: DOUT is read-only. V3.20.9: the pair of DIN. -/
theorem test_pairs :
    State.reset.busWrite 0x28 0x12345678#32 = State.reset
    ∧ ((State.reset.busWrite 0x20 0x01234567#32).busWrite 0x24 0x89ABCDEF#32).din
        = 0x0123456789ABCDEF#64 := by
  decide

/-- A state with STATUS = 0x106 and ERRINFO = 0x102 (V3.20.10). -/
def errState : State :=
  { State.reset with done := true, err := true, errCode := .illegalCmd, errInfo := 0x102#32 }

/-- V3.20.10 to V3.20.12. -/
theorem test_status_write :
    errState.statusWord = 0x106#32
    ∧ (errState.busWrite 0x08 2#32).statusWord = 0x104#32
    ∧ (errState.busWrite 0x08 2#32).errInfo = 0x102#32
    ∧ (errState.busWrite 0x08 4#32).statusWord = 2#32
    ∧ (errState.busWrite 0x08 4#32).errInfo = 0#32
    ∧ errState.busWrite 0x08 0#32 = errState := by
  decide

/-- V3.60.1 and V3.60.2: rejection, and the first error kept. -/
theorem test_first_error :
    (State.reset.busWrite 0x0C 2#32).statusWord = 0x104#32
    ∧ ((State.reset.busWrite 0x0C 2#32).busWrite 0x0C 0x816#32).statusWord = 0x104#32
    ∧ ((State.reset.busWrite 0x0C 2#32).busWrite 0x0C 0x816#32).errInfo = 2#32 := by
  decide

/-- V3.60.4 and V3.60.5: writes while busy. -/
theorem test_busy_writes :
    (busyState.busWrite 0x24 0x12345678#32).statusWord = 0x405#32
    ∧ (busyState.busWrite 0x24 0x12345678#32).errInfo = 0x24#32
    ∧ (busyState.busWrite 0x24 0x12345678#32).din = 0#64
    ∧ (busyState.busWrite 0x0C 0#32).statusWord = 0x305#32 := by
  decide

/-- V3.60.7 and V3.60.8: the interrupt output. -/
theorem test_irq :
    (after .nop (State.reset.busWrite 0x04 1#32)).irq = true
    ∧ ((after .nop (State.reset.busWrite 0x04 1#32)).busWrite 0x08 2#32).irq = false
    ∧ ((State.reset.busWrite 0x04 2#32).busWrite 0x0C 0x10000#32).irq = true := by
  decide

/-- V3.70.2: reset while busy. -/
theorem test_reset_while_busy :
    { busyState with key := 0x133457799BBCDFF1#64 }.applyReset = State.reset := by
  decide

/-! ### The commands -/

/-- V3.41.2: ERR stays. -/
theorem test_nop : (after .nop (State.reset.busWrite 0x0C 2#32)).statusWord = 0x106#32 := by decide

/-- V3.41.3. -/
theorem test_sreset :
    (after .sreset { errState with key := 5#64, dout := 7#64, ieDone := true }).statusWord = 2#32
    ∧ (after .sreset { errState with key := 5#64, dout := 7#64, ieDone := true }).dout = 0#64
    ∧ (after .sreset { errState with key := 5#64, dout := 7#64, ieDone := true }).irq = true := by
  decide

/-- V3.42.1 and V3.42.6. -/
theorem test_ip :
    (after .ip (withDin 0x0123456789ABCDEF#64)).dout = 0xCC00CCFFF0AAF0AA#64
    ∧ (after .ip (withDin 1#64)).dout = 0x0000008000000000#64 := by
  decide +kernel

/-- V3.42.3 and V3.42.7. -/
theorem test_fp :
    (after .fp (withDin 0x0123456789ABCDEF#64)).dout = 0xFF330FAA00330FAA#64
    ∧ (after .fp (withDin 1#64)).dout = 0x0200000000000000#64 := by
  decide +kernel

/-- V3.42.9 and V3.42.10. -/
theorem test_expand :
    (after .expand (withDin 0xF0AAF0AA#64)).dout = 0x7A15557A1555#64
    ∧ (after .expand (withDin 0xFFFFFFFF80000000#64)).dout = 0x400000000001#64 := by
  decide +kernel

/-- V3.42.13 and V3.42.15. -/
theorem test_pperm :
    (after .pperm (withDin 0xF0AAF0AA#64)).dout = 0x29C687C7#64
    ∧ (after .pperm (withDin 1#64)).dout = 0x800#64 := by
  decide +kernel

/-- V3.42.16 and V3.42.17. -/
theorem test_pc1 :
    (after .pc1 (withDin 0x133457799BBCDFF1#64)).dout = 0x00F0CCAAF556678F#64
    ∧ (after .pc1 (withDin 0x0101010101010101#64)).dout = 0#64 := by
  decide +kernel

/-- V3.42.20 and V3.42.23. -/
theorem test_pc2 :
    (after .pc2 (withDin 0x00F0CCAAF556678F#64)).dout = 0xCB3D8B0E17F5#64
    ∧ (after .pc2 (withDin 0xFF00000000000000#64)).dout = 0#64 := by
  decide +kernel

/-- The S-box corners of section 3.42, and V3.42.24. -/
theorem test_sbox :
    (after (.sbox 0) (withDin 0xFFFFFFFFFFFFFFC0#64)).dout = 0xE#64
    ∧ (after (.sbox 1) (withDin 0x20#64)).dout = 0x0#64
    ∧ (after (.sbox 4) (withDin 0x21#64)).dout = 0xB#64
    ∧ (after (.sbox 7) (withDin 0x1E#64)).dout = 0x7#64 := by
  decide +kernel

/-- V3.43.1 and V3.43.4. -/
theorem test_ffunc :
    (after .ffunc { withDin 0xF0AAF0AA#64 with sk := 0x1B02EFFC7072#48 }).dout = 0x234AA9BB#64
    ∧ (after .ffunc { withDin 0#64 with sk := 0xFFFFFFFFFFFF#48 }).dout = 0x38DBF9CB#64 := by
  decide +kernel

/-- V3.43.5. -/
theorem test_blkLoad :
    (after .blkLoad (withDin 0x0123456789ABCDEF#64)).halfL = 0xCC00CCFF#32
    ∧ (after .blkLoad (withDin 0x0123456789ABCDEF#64)).halfR = 0xF0AAF0AA#32
    ∧ (after .blkLoad (withDin 0x0123456789ABCDEF#64)).dout = 0#64 := by
  decide +kernel

/-- The start of V3.43.6. -/
def roundState : State :=
  { State.reset with halfL := 0xCC00CCFF#32, halfR := 0xF0AAF0AA#32, sk := 0x1B02EFFC7072#48 }

/-- V3.43.6. -/
theorem test_round :
    (after .round roundState).halfL = 0xF0AAF0AA#32
    ∧ (after .round roundState).halfR = 0xEF4A6544#32 := by
  decide +kernel

/-- The start of V3.43.7. -/
def storeState : State := { State.reset with halfL := 0x43423234#32, halfR := 0x0A4CD995#32 }

/-- V3.43.7. -/
theorem test_blkStore :
    (after .blkStore storeState).halfL = 0x0A4CD995#32
    ∧ (after .blkStore storeState).halfR = 0x43423234#32
    ∧ (after .blkStore storeState).dout = 0x85E813540F0AB405#64 := by
  decide +kernel

/-- V3.43.8. -/
theorem test_encBlock :
    (after .encBlock (withDin 0x0123456789ABCDEF#64)).dout = 0x85E813540F0AB405#64
    ∧ (after .encBlock (withDin 0x0123456789ABCDEF#64)).halfL = 0x0A4CD995#32
    ∧ (after .encBlock (withDin 0x0123456789ABCDEF#64)).ksC = 0xF0CCAAF#28
    ∧ (after .encBlock (withDin 0x0123456789ABCDEF#64)).sk = 0xCB3D8B0E17F5#48 := by
  decide +kernel

/-- V3.43.9. -/
theorem test_decBlock :
    (after .decBlock (withDin 0x85E813540F0AB405#64)).dout = 0x0123456789ABCDEF#64
    ∧ (after .decBlock (withDin 0x85E813540F0AB405#64)).halfR = 0xF0AAF0AA#32
    ∧ (after .decBlock (withDin 0x85E813540F0AB405#64)).ksD = 0xAACCF1E#28
    ∧ (after .decBlock (withDin 0x85E813540F0AB405#64)).sk = 0x1B02EFFC7072#48 := by
  decide +kernel

/-- A state with halves of the key schedule (rows of V3.44.1). -/
def ksState (c d : KeyHalf) : State := { withDin 0#64 with ksC := c, ksD := d }

/-- V3.44.1, rows 0 and 2, left. -/
theorem test_ksEncStep :
    (after (.ksEncStep 0) (ksState 0#28 0#28)).sk = 0x1B02EFFC7072#48
    ∧ (after (.ksEncStep 2) (ksState 0xC332ABF#28 0x5599E3D#28)).ksC = 0x0CCAAFF#28
    ∧ (after (.ksEncStep 2) (ksState 0xC332ABF#28 0x5599E3D#28)).sk = 0x55FC8A42CF99#48 := by
  decide +kernel

/-- V3.44.1, rows 0 and 2, right; V3.44.6. -/
theorem test_ksDecStep :
    (after (.ksDecStep 0) (ksState 0#28 0#28)).ksC = 0xF0CCAAF#28
    ∧ (after (.ksDecStep 2) (ksState 0xF866557#28 0xAAB33C7#28)).sk = 0x5F43B7F2E73A#48
    ∧ (after (.ksDecStep 1) (ksState 1#28 0#28)).ksC = 0x8000000#28 := by
  decide +kernel

/-- V3.45.1. -/
theorem test_cbcEnc :
    (after .cbcEnc { withDin 0x0123456789ABCDEF#64 with chain := 0x1122334455667788#64 }).dout
        = 0x40EE44EEA90B69C0#64
    ∧ (after .cbcEnc { withDin 0x0123456789ABCDEF#64 with chain := 0x1122334455667788#64 }).chain
        = 0x40EE44EEA90B69C0#64 := by
  decide +kernel

/-- V3.45.3d. -/
theorem test_cbcDec :
    (after .cbcDec { withDin 0x5555555555555555#64 with chain := 0x5555555555555555#64 }).dout
        = 0x4DFC28D49A846336#64
    ∧ (after .cbcDec { withDin 0x5555555555555555#64 with chain := 0x5555555555555555#64 }).chain
        = 0x5555555555555555#64 := by
  decide +kernel

/-- V3.45.3e: whatever the draw. -/
theorem test_ivGen : (after .ivGen State.reset).chain = (after .ivGen State.reset).dout := rfl

/-- V3.45.4, n = 0, 3 and 7. -/
theorem test_pad :
    (after (.pad 0) (withDin 0x0123456789ABCDEF#64)).dout = 0x0808080808080808#64
    ∧ (after (.pad 3) (withDin 0x0123456789ABCDEF#64)).dout = 0x0123450505050505#64
    ∧ (after (.pad 7) (withDin 0x0123456789ABCDEF#64)).dout = 0x0123456789ABCD01#64 := by
  decide +kernel

/-- V3.45.5. -/
theorem test_unpad :
    (after .unpad (withDin 0x0123456789AB0202#64)).dout = 2#64
    ∧ (after .unpad (withDin 0x0123456789AB0302#64)).dout = 0#64
    ∧ (after .unpad (withDin 0x0808080808080808#64)).dout = 8#64
    ∧ (after .unpad (withDin 0x0123456789ABCD00#64)).dout = 0#64
    ∧ (after .unpad (withDin 0x0123456789ABCD09#64)).dout = 0#64
    ∧ (after .unpad (withDin 0x0123450303030303#64)).dout = 3#64 := by
  decide +kernel

/-- Section 3.46. -/
theorem test_modexp :
    (after .modexp (withRsa 65 17 3233)).rsaRes = 2790#32
    ∧ (after .modexp (withRsa 0 0 7)).rsaRes = 1#32
    ∧ (after .modexp (withRsa 5 0 1)).rsaRes = 0#32
    ∧ (after .modexp (withRsa 123456789 987654321 4294967291)).rsaRes = 4114726592#32 := by
  decide +kernel

/-- V3.70.3, through withFetchWord and step. -/
theorem test_step_runs_placed_word :
    (stepped (State.reset.withFetchWord 32 0x24)).dout = 0x8CA64DE9C1B123A7#64
    ∧ (stepped (State.reset.withFetchWord 32 0x24)).pending = none := by
  decide +kernel

/-- V3.47.2 and V3.47.3. -/
theorem test_message :
    msgEncrypt tables 0x133457799BBCDFF1#64 [0x41, 0x42, 0x43] 0x1122334455667788#64
      = [0x11, 0x22, 0x33, 0x44, 0x55, 0x66, 0x77, 0x88, 0xF6, 0x05, 0x77, 0xAF, 0xD2, 0xCA, 0x9F, 0xF6]
    ∧ stripLast [0x0123456789ABCD01#64] = [0x01, 0x23, 0x45, 0x67, 0x89, 0xAB, 0xCD] := by
  decide +kernel

/-- An instance other than the default one: IP and FP leave every position where it is (R110, R111). -/
def plainTables : DesTables :=
  { fipsTables with ip := List.range' 1 64, fp := List.range' 1 64 }

/-- R110: the machine over another valid instance. IP is then the identity, and DEC_BLOCK undoes
ENC_BLOCK (R149). -/
theorem test_other_instance :
    plainTables.Valid
    ∧ (afterWith plainTables .ip (withDin 0x0123456789ABCDEF#64)).dout = 0x0123456789ABCDEF#64
    ∧ (afterWith plainTables .decBlock (withDin
        (afterWith plainTables .encBlock (withDin 0x0123456789ABCDEF#64)).dout)).dout
        = 0x0123456789ABCDEF#64 := by
  decide +kernel

/-- V3.47.9 and V3.47.11: RSA text. -/
theorem test_rsa_text :
    rsaEncrypt 17#32 3233#32 [65, 66] = .ok [0x00, 0x00, 0x0A, 0xE6, 0x00, 0x00, 0x02, 0x0C]
    ∧ rsaDecrypt 2753#32 3233#32 [1, 2, 3, 4, 5, 6] = .error .malformedInput := by
  decide +kernel

/-! ### Witnesses: one for each obligation with hypotheses, at the boundaries of its clauses -/

theorem witness_OutOfRangeAndZeroModulusRejected :
    State.reset.pending = none ∧ (Instr.sbox 8).wellFormed = false
    ∧ (Instr.ksEncStep 16).wellFormed = false ∧ (Instr.ksDecStep 255).wellFormed = false
    ∧ (Instr.pad 8).wellFormed = false ∧ State.reset.rsaMod = 0#32 := by
  decide

theorem witness_MeaningOfRefusedFormIsRejection :
    (Instr.pad 8).wellFormed = false ∧ State.reset.rsaMod = 0#32 := by
  decide

theorem witness_ResetAbortsPendingCommand :
    { busyState with events := [.reset, .engine] }.events = .reset :: [.engine]
    ∧ busyState.pending ≠ none := by
  decide

theorem witness_ResetReadsZero : (0 < 0x04 ∧ 0x04 < 0x100) ∧ (0 < 0xFF ∧ 0xFF < 0x100) := by decide

theorem witness_FirstErrorIsKept : State.reset.err = false ∧ errState.err = true := by decide

theorem witness_BusErrorHasNoEffect :
    (0x00 < 0x100 ∧ ¬ (Size.byte = .word ∧ 0x00 % 4 = 0))
    ∧ (0xFF < 0x100 ∧ ¬ (Size.word = .word ∧ 0xFF % 4 = 0)) := by
  decide

theorem witness_StepStopsOnlyOutsideWindow :
    (Event.read (Config.base + 0x100) .word).inWindow = false
    ∧ (Event.read (Config.base + 0xFF) .word).inWindow = true
    ∧ (Event.write Config.base .word 0#32).inWindow = true := by
  refine ⟨?_, ?_, ?_⟩ <;> simp [Event.inWindow, windowOffset]

theorem witness_BusReadReturns :
    (0x14 < 0x100 ∧ 0x14 % 4 = 0) ∧ (0xFC < 0x100 ∧ 0xFC % 4 = 0 ∧ 0x60 ≤ 0xFC)
    ∧ (0x18 ≤ 0x18 ∧ 0x18 ≤ 0x5C ∧ busyState.pending ≠ none)
    ∧ ¬ (0x18 ≤ 0x5C ∧ 0x5C ≤ 0x5C ∧ State.reset.pending ≠ none) := by
  decide

theorem witness_HostWriteIsReadBackAlone :
    (0x18 % 4 = 0 ∧ 0x18 ≤ 0x24 ∧ 0x24 % 4 = 0) ∧ (0x30 % 4 = 0 ∧ 0x30 ≤ 0x58 ∧ 0x58 % 4 = 0)
    ∧ State.reset.pending = none ∧ busyState.pending ≠ none
    ∧ (0x5C ∈ [0x00, 0x10, 0x14, 0x28, 0x2C, 0x5C]) ∧ (0xFC < 0x100 ∧ 0x60 ≤ 0xFC) := by
  decide

theorem witness_SubmitAcceptsOrRejects :
    busyState.pending ≠ none
    ∧ (State.reset.pending = none ∧ State.reset.check 0x50#32 ≠ .none)
    ∧ (State.reset.pending = none ∧ State.reset.check 0x24#32 = .none) := by
  decide

theorem witness_CmdWriteClearsDone :
    State.reset.pending = none
    ∧ (State.reset.busWrite 0x0C 0x24#32).pending = some 0x24#32
    ∧ (State.reset.busWrite 0x0C 0x02#32).pending = none := by
  decide

theorem witness_HostCannotChangeDataWhileBusy :
    busyState.pending ≠ none
    ∧ Event.write (Config.base + 0x18) .word 1#32 ≠ .engine
    ∧ Event.write (Config.base + 0x18) .word 1#32 ≠ .reset
    ∧ ∃ t, handleEvent (.write (Config.base + 0x18) .word 1#32) busyState = .next t := by
  refine ⟨by decide, by simp, by simp, ?_⟩
  simp [handleEvent, handleEventBy, State.hostWrite]

theorem witness_BusyProtocolAvoidsBusyErrors :
    Event.keepsBusyProtocol busyState (.read (Config.base + 0x08) .word) = true
    ∧ ∃ t, handleEvent (.read (Config.base + 0x08) .word) busyState = .next t := by
  constructor
  · simp [Event.keepsBusyProtocol, isDataOffset]
  · simp [handleEvent, handleEventBy, State.hostRead]

theorem witness_StepRunsThePendingCommand :
    { busyState with events := [.engine, .reset] }.events = .engine :: [.reset]
    ∧ { busyState with events := [.engine, .reset] }.pending = some 0x24#32
    ∧ decode 0x24#32 = .ok .encBlock ∧ Instr.encBlock.wellFormed = true
    ∧ (State.reset.events = [] ∧ State.reset.pending = none) := by
  decide

theorem witness_CompletionRaisesNoError :
    (busyState.inv = true ∧ busyState.pending = some 0x24#32 ∧ 0x24#32 ≠ 0x00000001#32)
    ∧ (State.inv { State.reset with pending := some 0x01#32 } = true) := by
  decide

/-- A pending command, two host accesses before the engine's turn, and one event after it; and the same
command with no event at all. -/
theorem witness_EveryCommandCompletes :
    let accesses : List Event := [.read (Config.base + 0x08) .word, .write Config.base .byte 0#32]
    let s : State := { busyState with events := accesses ++ .engine :: [.reset] }
    s.inv = true ∧ s.pending = some 0x24#32 ∧ s.events = accesses ++ .engine :: [.reset]
    ∧ (∀ e ∈ accesses, e ≠ .engine ∧ e ≠ .reset ∧ e.inWindow = true)
    ∧ (∀ e ∈ s.events, e.inWindow = true)
    ∧ busyState.inv = true ∧ busyState.pending = some 0x24#32 ∧ busyState.events = [] := by
  refine ⟨?_, rfl, rfl, ?_, ?_, by decide, rfl, rfl⟩
  · show busyState.inv = true
    decide
  · simp [Event.inWindow, windowOffset]
  · simp [Event.inWindow, windowOffset]

theorem witness_StepKeepsInvariant :
    State.inv { errState with events := [.engine] } = true
    ∧ ∃ t, step { errState with events := [.engine] } = .next t := by
  exact ⟨by decide, _, rfl⟩

theorem witness_SboxReadsTableEntry : (0 : Byte).toNat < 8 ∧ (7 : Byte).toNat < 8 := by decide

theorem witness_KsEncStepRotatesLeft : (0 : Byte).toNat < 16 ∧ (15 : Byte).toNat < 16 := by decide

theorem witness_KsDecStepRotatesRight : (1 : Byte).toNat < 16 ∧ (15 : Byte).toNat < 16 := by decide

theorem witness_PadFillsBytes : (0 : Byte).toNat < 8 ∧ (7 : Byte).toNat < 8 := by decide

theorem witness_ModexpIsExact : (withRsa 0xFFFFFFFF 0xFFFFFFFF 1).rsaMod ≠ 0#32 := by decide

theorem witness_OnlyListedCommandsWrite :
    (∃ t, exec .cbcEnc State.reset = .next t) ∧ (∃ t, exec .sreset State.reset = .next t)
    ∧ (∃ t, exec (.ksEncStep 16) State.reset = .next t) := by
  refine ⟨⟨_, rfl⟩, ⟨_, rfl⟩, ⟨_, rfl⟩⟩

theorem witness_NoCommandReadsResults : ∃ t, exec .blkStore State.reset = .next t := ⟨_, rfl⟩

/-- The default instance meets R111: the hypothesis of FinalPermutationInvertsInitial, of
BlockDecryptionInvertsEncryption and of MessageRoundTrip. -/
theorem witness_Valid : fipsTables.Valid := by decide +kernel

theorem witness_BlockPermutationsPlacePositions : (1 ≤ 1 ∧ 1 ≤ 64) ∧ (1 ≤ 64 ∧ 64 ≤ 64) := by decide

theorem witness_KeyScheduleIsSymmetric : 0 ≤ 15 ∧ 15 ≤ 15 := by decide

/-- Keys that differ in the parity positions alone (V3.43.13). -/
theorem witness_ParityPositionsDoNotMatter :
    (∀ k, 1 ≤ k → k ≤ 64 → k % 8 ≠ 0 → pos 0#64 k = pos 0x0101010101010101#64 k)
    ∧ (0#64 : Block) ≠ 0x0101010101010101#64 := by
  have h : ∀ k, k < 65 → 1 ≤ k → k % 8 ≠ 0 → pos 0#64 k = pos 0x0101010101010101#64 k := by decide
  exact ⟨fun k h1 h2 h3 => h k (by omega) h1 h3, by decide⟩

theorem witness_PadCountOfPad : 0 ≤ 7 ∧ 7 ≤ 7 := by decide

/-- A message of nine bytes, and one with another first byte. -/
theorem witness_ChainingDiffusion :
    let P : List Byte := [1, 2, 3, 4, 5, 6, 7, 8, 9]
    let Q : List Byte := [0, 2, 3, 4, 5, 6, 7, 8, 9]
    P.length = Q.length ∧ msgSegment P 0 ≠ msgSegment Q 0 ∧ (∀ i, i ≠ 0 → msgSegment P i = msgSegment Q i)
    ∧ 0 ≤ 1 ∧ 1 < segmentCount P := by
  refine ⟨rfl, by decide, fun i hi => ?_, by decide, by decide⟩
  cases i with
  | zero => exact absurd rfl hi
  | succ n =>
    simp only [msgSegment, show 8 * (n + 1) = 8 * n + 7 + 1 by omega, List.drop_succ_cons]

theorem witness_HostEncryptionMeetsContract :
    State.reset.pending = none ∧ State.reset.err = false := by
  decide

theorem witness_HostDecryptionMeetsContract : errState.pending = none := by decide

theorem witness_HostRsaMeetsContract :
    errState.pending = none ∧ errState.err = true ∧ (withRsa 1 2 3).pending = none := by
  decide

/-- Exponents 3 and 3 modulus 15, code units at both ends. -/
theorem witness_RsaTextRoundTrip :
    (∀ u ∈ [(0 : BitVec 16), 14], u.toNat < (15#32).toNat)
    ∧ (∀ x, x < (15#32).toNat →
        x ^ ((3#32).toNat * (3#32).toNat) % (15#32).toNat = x % (15#32).toNat) := by
  refine ⟨by simp, ?_⟩
  rw [show (15#32 : Word).toNat = 15 from rfl, show (3#32 : Word).toNat = 3 from rfl]
  decide

end Sys2Proof.Tests
end

section
/-!
PROOFS. What each command may write (10_state.md R41): one inversion of `exec`, said in the registers
a command writes.
-/
namespace Sys2Proof.Machine

/-- The registers that the command `i` may write in the state `s`, by R41's columns, with the common
completion of R266: one constructor for each group of commands with the same columns. -/
inductive CommandEffect (s : State) : Instr → State → Prop where
  /-- A form that Check refuses (log entry 14). -/
  | refused {i : Instr} (code : ErrCode)
      (hi : i.wellFormed = false ∨ (i = .modexp ∧ s.rsaMod = 0#32)) :
      CommandEffect s i (s.reject code (encode i))
  /-- NOP writes no data register (R100). -/
  | nop : CommandEffect s .nop s.complete
  /-- SRESET clears every data register and the error record (R101). -/
  | sreset : CommandEffect s .sreset s.clearData.clearError.complete
  /-- The primitives write DOUT (R120 to R126, R141, R193, R196). -/
  | primitive {i : Instr} (v : Block)
      (hi : i ∈ [.ip, .fp, .expand, .pperm, .pc1, .pc2, .ffunc, .unpad]
        ∨ ∃ n, i = .sbox n ∨ i = .pad n) :
      CommandEffect s i (s.setDout v).complete
  /-- BLK_LOAD and ROUND write the halves (R142, R143). -/
  | halves {i : Instr} (l r : Word) (hi : i ∈ [.blkLoad, .round]) :
      CommandEffect s i (State.complete { s with halfL := l, halfR := r })
  /-- BLK_STORE writes the halves and DOUT (R144). -/
  | blkStore (l r : Word) (v : Block) :
      CommandEffect s .blkStore (State.complete { s with halfL := l, halfR := r, dout := v })
  /-- A key step writes KS_C, KS_D and SK (R173, R174). -/
  | keyStep {i : Instr} (c d : KeyHalf) (k : SubKey)
      (hi : ∃ n, i = .ksEncStep n ∨ i = .ksDecStep n) :
      CommandEffect s i (State.complete { s with ksC := c, ksD := d, sk := k })
  /-- ENC_BLOCK and DEC_BLOCK write the datapath and DOUT (R147, R148). -/
  | block {i : Instr} (p : Datapath) (v : Block) (hi : i ∈ [.encBlock, .decBlock]) :
      CommandEffect s i ((s.setDatapath p).setDout v).complete
  /-- CBC_ENC and CBC_DEC write the datapath, DOUT and CHAIN (R190, R191). -/
  | chained {i : Instr} (p : Datapath) (v c : Block) (hi : i ∈ [.cbcEnc, .cbcDec]) :
      CommandEffect s i (((s.setDatapath p).setDout v).setChain c).complete
  /-- IV_GEN draws once and writes CHAIN and DOUT (R192). -/
  | ivGen (v : Block) : CommandEffect s .ivGen ((s.noteDraw.setChain v).setDout v).complete
  /-- MODEXP writes RSA_RES (R221). -/
  | modexp (v : Word) : CommandEffect s .modexp (s.setRsaRes v).complete

/-- For every choice of the tables (R110), a command does what its group in `CommandEffect` says. -/
theorem execWith_effect (T : DesTables) (i : Instr) (s : State) :
    ∃ t, execWith T i s = .next t ∧ CommandEffect s i t := by
  cases i with
  | nop => exact ⟨_, rfl, .nop⟩
  | sreset => exact ⟨_, rfl, .sreset⟩
  | blkLoad | round => exact ⟨_, rfl, .halves _ _ (by decide)⟩
  | blkStore => exact ⟨_, rfl, .blkStore _ _ _⟩
  | encBlock | decBlock => exact ⟨_, rfl, .block _ _ (by decide)⟩
  | cbcEnc | cbcDec => exact ⟨_, rfl, .chained _ _ _ (by decide)⟩
  | ivGen => exact ⟨_, rfl, .ivGen _⟩
  | ip | fp | expand | pperm | pc1 | pc2 | ffunc | unpad =>
    exact ⟨_, rfl, .primitive _ (.inl (by decide))⟩
  | sbox n | pad n =>
    by_cases h : n.toNat < 8
    · exact ⟨_, if_pos (decide_eq_true h), .primitive _ (.inr ⟨n, by simp⟩)⟩
    · exact ⟨_, if_neg fun hw => h (of_decide_eq_true hw), .refused _ (.inl (decide_eq_false h))⟩
  | ksEncStep n | ksDecStep n =>
    by_cases h : n.toNat < 16
    · exact ⟨_, if_pos (decide_eq_true h), .keyStep _ _ _ ⟨n, by simp⟩⟩
    · exact ⟨_, if_neg fun hw => h (of_decide_eq_true hw), .refused _ (.inl (decide_eq_false h))⟩
  | modexp =>
    by_cases h : s.rsaMod = 0#32
    · exact ⟨_, if_pos h, .refused _ (.inr ⟨rfl, h⟩)⟩
    · exact ⟨_, if_neg h, .modexp _⟩

/-- What a command of the machine may write (R41). -/
theorem exec_effect {i : Instr} {s t : State} (h : exec i s = .next t) : CommandEffect s i t := by
  obtain ⟨u, hu, hf⟩ := execWith_effect tables i s
  rw [exec_eq_execWith, hu] at h
  cases h
  exact hf

/-- R266: a command that Check passes completes: PENDING is none, DONE is 1, and the error record is
as it was, or cleared by SRESET. -/
theorem CommandEffect.status_of_accepted {i : Instr} {s t : State} (h : CommandEffect s i t)
    (hw : i.wellFormed = true) (hm : ¬ (i = .modexp ∧ s.rsaMod = 0#32)) :
    t.pending = none ∧ t.done = true
    ∧ (i ≠ .sreset → t.err = s.err ∧ t.errCode = s.errCode ∧ t.errInfo = s.errInfo)
    ∧ (i = .sreset → t.err = false ∧ t.errCode = .none ∧ t.errInfo = 0#32) := by
  cases h with
  | refused code hi =>
    rcases hi with hi | hi
    · simp [hi] at hw
    · exact absurd hi hm
  | sreset | nop | blkStore | ivGen | modexp => simp
  | primitive v hi | halves l r hi | keyStep c d k hi | block p v hi | chained p v c hi =>
    refine ⟨rfl, rfl, fun _ => ⟨rfl, rfl, rfl⟩, ?_⟩
    rintro rfl
    simp at hi

/-- R41: CTRL and the model's own fields but the draw counter are written by no command. -/
theorem CommandEffect.ctrl_frame {i : Instr} {s t : State} (h : CommandEffect s i t) :
    t.ieDone = s.ieDone ∧ t.ieErr = s.ieErr
    ∧ t.events = s.events ∧ t.response = s.response ∧ t.busyReads = s.busyReads := by
  cases h <;> exact ⟨rfl, rfl, rfl, rfl, rfl⟩

/-- Settles O44: the writers of each register, read off the groups of `CommandEffect`. -/
theorem onlyListedCommandsWrite : Obligations.OnlyListedCommandsWrite := by
  intro i s t h
  have he := exec_effect h
  refine ⟨fun hs => ?_, he.ctrl_frame⟩
  cases he with
  | sreset => exact absurd rfl hs
  | nop | blkStore | ivGen | modexp | refused => simp
  | primitive v hi =>
    rcases hi with hi | ⟨n, rfl | rfl⟩
    · fin_cases hi <;> simp
    · simp
    · simp
  | keyStep c d k hi => obtain ⟨n, rfl | rfl⟩ := hi <;> simp
  | halves l r hi | block p v hi | chained p v c hi => fin_cases hi <;> simp

end Sys2Proof.Machine
end

section
/-!
PROOFS. The invariant of the error record and of PENDING (10_state.md R24, R35; 60_exceptions.md R260,
R263, R265): what each operation of the bus and of the engine does to it.
-/
namespace Sys2Proof

/-- A word is the command word of its fields, where RSV is zero (R80, R83). -/
theorem eq_commandWord {w : Word} {opc imm : Byte} (hopc : (opcField w).toNat = opc.toNat)
    (himm : immField w = imm) (hrsv : rsvField w = 0#16) : w = commandWord opc imm := by
  rw [← BitVec.eq_of_toNat_eq hopc, ← himm, commandWord_of_fields hrsv]

/-- A word that decodes to a command is that command's word (R83, R84). -/
theorem eq_encode_of_decode {w : Word} {i : Instr} (h : decode w = .ok i) : w = encode i := by
  unfold decode at h
  split at h
  case h_9 hopc | h_16 hopc | h_17 hopc | h_21 hopc =>
    obtain ⟨hrsv, rfl⟩ := decodeWithOperand_eq_ok.1 h
    exact eq_commandWord hopc rfl hrsv
  case h_24 => cases h
  all_goals
    rename_i hopc
    obtain ⟨hrsv, himm, rfl⟩ := decodePlain_eq_ok.1 h
    exact eq_commandWord hopc himm hrsv

end Sys2Proof

namespace Sys2Proof.Machine

/-- Check reads no register but RSA_MOD (R264). -/
theorem State.check_congr {s t : State} (h : t.rsaMod = s.rsaMod) (w : Word) :
    t.check w = s.check w := by
  simp only [State.check, h]

/-- R264 steps 1 to 3: Check's answer for a word that is no command. -/
theorem State.check_of_no_command (s : State) {w : Word} {e : DecodeError}
    (hd : decode w = .error e) : s.check w = .illegalCmd := by
  simp only [State.check, hd]

/-- R264 steps 4 and 5: Check's answer for a command. -/
theorem State.check_of_command (s : State) {w : Word} {i : Instr} (hd : decode w = .ok i) :
    s.check w =
      if i.wellFormed = true then
        if i = .modexp ∧ s.rsaMod = 0#32 then .modZero else .none
      else .badOperand := by
  simp only [State.check, hd]

/-- R263, R265: the word that Check refuses is truthful information for the code it gives. -/
theorem errInfoTruthful_check (s : State) {w : Word} (h : s.check w ≠ .none) :
    errInfoTruthful (s.check w) w = true := by
  cases hd : decode w with
  | error e => simp [s.check_of_no_command hd, errInfoTruthful, hd]
  | ok i =>
    rw [s.check_of_command hd] at h ⊢
    by_cases hw : i.wellFormed = true
    · by_cases hm : i = .modexp ∧ s.rsaMod = 0#32
      · rw [if_pos hw, if_pos hm]
        exact decide_eq_true (hm.1 ▸ eq_encode_of_decode hd)
      · simp [hw, hm] at h
    · simp [hw, errInfoTruthful, hd]

/-- R263: the offset of an aligned write to a writable data register is truthful for code 4. -/
theorem errInfoTruthful_writeWhileBusy {off : Nat} (hlt : off < 0x100) (h4 : off % 4 = 0)
    (hw : isWritableData off = true) :
    errInfoTruthful .writeWhileBusy (BitVec.ofNat 32 off) = true := by
  have hoff : (BitVec.ofNat 32 off).toNat = off := Nat.mod_eq_of_lt (by omega)
  simp [errInfoTruthful, hoff, hw, h4]

/-- The part of the invariant about ERR, ERRCODE and ERRINFO (R24, R263). -/
def State.ErrorRecordTruthful (s : State) : Prop :=
  s.err = decide (s.errCode ≠ .none) ∧ errInfoTruthful s.errCode s.errInfo = true

/-- The invariant has two parts: the error record's and PENDING's. -/
theorem State.inv_iff (s : State) :
    s.inv = true ↔ s.ErrorRecordTruthful ∧ s.pendingAccepted = true := by
  simp only [State.inv, State.ErrorRecordTruthful, Bool.and_eq_true, beq_iff_eq]

/-- The error record's part reads ERR, ERRCODE and ERRINFO only. -/
theorem State.ErrorRecordTruthful.congr {s t : State} (h : s.ErrorRecordTruthful)
    (herr : t.err = s.err) (hcode : t.errCode = s.errCode) (hinfo : t.errInfo = s.errInfo) :
    t.ErrorRecordTruthful := by
  simpa only [State.ErrorRecordTruthful, herr, hcode, hinfo] using h

/-- A cleared error record is truthful (R263). -/
theorem State.errorRecordTruthful_of_clear {t : State} (herr : t.err = false)
    (hcode : t.errCode = .none) (hinfo : t.errInfo = 0#32) : t.ErrorRecordTruthful := by
  simp [State.ErrorRecordTruthful, herr, hcode, hinfo, errInfoTruthful]

/-- R262: recording a truthful error keeps the record truthful, whether it is the first or not. -/
theorem State.ErrorRecordTruthful.raiseError {s : State} (h : s.ErrorRecordTruthful) {code : ErrCode}
    {info : Word} (hcode : code ≠ .none) (hinfo : errInfoTruthful code info = true) :
    (s.raiseError code info).ErrorRecordTruthful := by
  obtain ⟨herr, htrue⟩ := h
  cases he : s.err with
  | false => simp [State.ErrorRecordTruthful, he, hcode, hinfo]
  | true => simpa [State.ErrorRecordTruthful, he, htrue] using herr

/-- PENDING's part: a pending word passes Check, and DONE is 0 (R260, R261). -/
theorem State.pendingAccepted_iff (s : State) :
    s.pendingAccepted = true ↔ ∀ w, s.pending = some w → s.check w = .none ∧ s.done = false := by
  cases hp : s.pending <;> simp [State.pendingAccepted, hp]

/-- With nothing pending, PENDING's part holds. -/
theorem State.pendingAccepted_of_idle {s : State} (h : s.pending = none) :
    s.pendingAccepted = true := by
  simp [State.pendingAccepted_iff, h]

/-- PENDING's part goes over to a state with the same PENDING and RSA_MOD in which DONE was not set. -/
theorem State.pendingAccepted_congr {s t : State} (h : s.pendingAccepted = true)
    (hp : t.pending = s.pending) (hm : t.rsaMod = s.rsaMod) (hd : s.done = false → t.done = false) :
    t.pendingAccepted = true := by
  rw [State.pendingAccepted_iff] at h ⊢
  intro w hw
  obtain ⟨hc, hdone⟩ := h w (hp ▸ hw)
  exact ⟨(State.check_congr hm w).trans hc, hd hdone⟩

/-- The invariant reads the status fields, PENDING and RSA_MOD only. -/
theorem State.inv_congr {s t : State} (h : s.inv = true) (herr : t.err = s.err)
    (hcode : t.errCode = s.errCode) (hinfo : t.errInfo = s.errInfo) (hp : t.pending = s.pending)
    (hm : t.rsaMod = s.rsaMod) (hd : t.done = s.done) : t.inv = true := by
  rw [State.inv_iff] at h ⊢
  exact ⟨h.1.congr herr hcode hinfo, State.pendingAccepted_congr h.2 hp hm (hd ▸ id)⟩

/-- R262: recording a truthful error keeps the invariant. -/
theorem State.inv_raiseError {s : State} (h : s.inv = true) {code : ErrCode} {info : Word}
    (hcode : code ≠ .none) (hinfo : errInfoTruthful code info = true) :
    (s.raiseError code info).inv = true := by
  rw [State.inv_iff] at h ⊢
  exact ⟨h.1.raiseError hcode hinfo, State.pendingAccepted_congr h.2 rfl rfl id⟩

/-- R24, R56: a write to STATUS keeps the invariant. -/
theorem State.inv_writeStatus {s : State} (h : s.inv = true) (v : Word) :
    (s.writeStatus v).inv = true := by
  rw [State.inv_iff] at h ⊢
  obtain ⟨hrec, hpend⟩ := h
  rw [State.writeStatus_eq]
  constructor
  · cases v.getLsbD 2 with
    | false => exact hrec.congr rfl rfl rfl
    | true => exact State.errorRecordTruthful_of_clear rfl rfl rfl
  · refine State.pendingAccepted_congr hpend rfl rfl fun hd => ?_
    simp [hd]

/-- R260: each end of Submit keeps the invariant. -/
theorem State.inv_submit {s : State} (h : s.inv = true) (v : Word) : (s.submit v).inv = true := by
  obtain ⟨-, heq⟩ | ⟨-, hc, heq⟩ | ⟨-, hc, heq⟩ := s.submit_cases v <;> rw [heq]
  · exact State.inv_raiseError h (by decide) rfl
  · rw [State.inv_iff] at h ⊢
    refine ⟨h.1.congr rfl rfl rfl, (State.pendingAccepted_iff _).2 fun w hw => ⟨?_, rfl⟩⟩
    cases hw
    exact (State.check_congr rfl v).trans hc
  · rw [State.inv_iff] at h ⊢
    have hrec : State.ErrorRecordTruthful { s with done := false, pending := none } :=
      h.1.congr rfl rfl rfl
    exact ⟨hrec.raiseError hc (errInfoTruthful_check s hc), State.pendingAccepted_of_idle rfl⟩

/-- R56: an aligned write at an offset of the window keeps the invariant. RSA_MOD, which Check reads,
is written with nothing pending only. -/
theorem State.inv_busWrite {s : State} (h : s.inv = true) {off : Nat} (hlt : off < 0x100)
    (h4 : off % 4 = 0) (v : Word) : (s.busWrite off v).inv = true := by
  obtain ⟨-, heq⟩ | ⟨-, heq⟩ | ⟨-, heq⟩ | ⟨hw, -, heq⟩ | ⟨-, hidle, heq⟩ | ⟨-, heq⟩ :=
    s.busWrite_cases off v <;> rw [heq]
  · exact State.inv_congr h rfl rfl rfl rfl rfl rfl
  · exact State.inv_writeStatus h v
  · exact State.inv_submit h v
  · exact State.inv_raiseError h (by decide) (errInfoTruthful_writeWhileBusy hlt h4 hw)
  · obtain ⟨-, -, -, herr, hcode, hinfo, hpend, -⟩ := s.writeData_frame off v
    rw [State.inv_iff] at h ⊢
    exact ⟨h.1.congr herr hcode hinfo, State.pendingAccepted_of_idle (hpend.trans hidle)⟩
  · exact h

/-- R266: the engine's turn keeps the invariant: under it the pending word is a command that
completes. -/
theorem inv_engineTurn {s t : State} (h : s.inv = true) (ht : engineTurn s = .next t) :
    t.inv = true := by
  cases hp : s.pending with
  | none =>
    rw [engineTurn_none hp] at ht
    cases ht
    exact h
  | some w =>
    rw [State.inv_iff] at h ⊢
    obtain ⟨hrec, hpend⟩ := h
    obtain ⟨hc, -⟩ := (State.pendingAccepted_iff s).1 hpend w hp
    obtain ⟨i, hd, hw, hm⟩ := State.check_eq_none hc
    rw [engineTurn_some hp hd] at ht
    obtain ⟨hidle, -, hkept, hcleared⟩ := (exec_effect ht).status_of_accepted hw hm
    refine ⟨?_, State.pendingAccepted_of_idle hidle⟩
    by_cases hi : i = .sreset
    · obtain ⟨herr, hcode, hinfo⟩ := hcleared hi
      exact State.errorRecordTruthful_of_clear herr hcode hinfo
    · obtain ⟨herr, hcode, hinfo⟩ := hkept hi
      exact hrec.congr herr hcode hinfo

/-- Every event keeps the invariant: the engine's turn, the reset input, and each host access. -/
theorem inv_handleEvent {s t : State} {e : Event} (h : s.inv = true)
    (ht : handleEvent e s = .next t) : t.inv = true := by
  by_cases he : e = .engine
  · subst he
    exact inv_engineTurn h ht
  by_cases hr : e = .reset
  · subst hr
    cases ht
    exact (State.inv_iff _).2
      ⟨State.errorRecordTruthful_of_clear rfl rfl rfl, State.pendingAccepted_of_idle rfl⟩
  obtain ⟨r, rfl⟩ | ⟨r, rfl⟩ | ⟨off, v, hlt, h4, rfl⟩ := handleEvent_access_cases ht he hr
  · exact State.inv_congr h rfl rfl rfl rfl rfl rfl
  · exact State.inv_congr h rfl rfl rfl rfl rfl rfl
  · exact State.inv_congr (State.inv_busWrite h hlt h4 v) rfl rfl rfl rfl rfl rfl

/-- Settles O24: a step is one event, or the engine's turn on an empty schedule. -/
theorem stepKeepsInvariant : Obligations.StepKeepsInvariant := by
  intro s t h ht
  cases he : s.events with
  | nil => exact inv_engineTurn h (step_nil he ▸ ht)
  | cons e rest =>
    have hrest : (s.schedule rest).inv = true := State.inv_congr h rfl rfl rfl rfl rfl rfl
    exact inv_handleEvent hrest (step_cons he ▸ ht)

end Sys2Proof.Machine
end

section
/-!
PROOFS. DOUT and RSA_RES are read by no command (10_state.md R41).
-/
namespace Sys2Proof.Machine

/-- The state with other values in the two result registers, which R41 lets the host alone read. -/
def State.withResults (s : State) (d : Block) (r : Word) : State := { s with dout := d, rsaRes := r }

@[simp] theorem State.withResults_din (s : State) (d : Block) (r : Word) :
    (s.withResults d r).din = s.din := rfl
@[simp] theorem State.withResults_chain (s : State) (d : Block) (r : Word) :
    (s.withResults d r).chain = s.chain := rfl
@[simp] theorem State.withResults_key (s : State) (d : Block) (r : Word) :
    (s.withResults d r).key = s.key := rfl
@[simp] theorem State.withResults_datapath (s : State) (d : Block) (r : Word) :
    (s.withResults d r).datapath = s.datapath := rfl
@[simp] theorem State.withResults_setDatapath (s : State) (d : Block) (r : Word) (p : Datapath) :
    (s.withResults d r).setDatapath p = (s.setDatapath p).withResults d r := rfl

/-- The block procedure reads neither result register (R150). -/
@[simp] theorem State.withResults_blockResult (s : State) (d : Block) (r : Word) (T : DesTables)
    (dir : Dir) (x : Block) :
    (s.withResults d r).blockResult T dir x = s.blockResult T dir x := by
  rw [State.blockResult, State.withResults_key, State.withResults_datapath, State.blockResult]

/-- The block procedure leaves both result registers alone (R150). -/
@[simp] theorem State.withResults_runBlock (s : State) (d : Block) (r : Word) (T : DesTables)
    (dir : Dir) (x : Block) :
    (s.withResults d r).runBlock T dir x = (s.runBlock T dir x).withResults d r := by
  rw [State.runBlock, State.withResults_key, State.withResults_datapath,
    State.withResults_setDatapath, State.runBlock]

/-- What the two result registers hold after a command, `d'` and `r'`, when they held `d` and `r`
before it: in each, what it holds in `t`, or, where the command leaves it alone, the value put
there. -/
def ResultsWrittenOrKept (s t : State) (d : Block) (r : Word) (d' : Block) (r' : Word) : Prop :=
  (d' = t.dout ∨ (t.dout = s.dout ∧ d' = d)) ∧ (r' = t.rsaRes ∨ (t.rsaRes = s.rsaRes ∧ r' = r))

/-- R41 for every choice of the tables (R110): the case split is by which of the two a command
writes. -/
theorem execWith_withResults (T : DesTables) (i : Instr) (s : State) (d : Block) (r : Word) :
    ∃ (t : State) (d' : Block) (r' : Word), execWith T i s = .next t
      ∧ execWith T i (s.withResults d r) = .next (t.withResults d' r')
      ∧ ResultsWrittenOrKept s t d r d' r' := by
  cases i with
  | nop | blkLoad | round => exact ⟨_, d, r, rfl, rfl, .inr ⟨rfl, rfl⟩, .inr ⟨rfl, rfl⟩⟩
  | sreset => exact ⟨_, _, _, rfl, rfl, .inl rfl, .inl rfl⟩
  | ksEncStep n | ksDecStep n =>
    by_cases h : n.toNat < 16
    · exact ⟨_, d, r, if_pos (decide_eq_true h), if_pos (decide_eq_true h), .inr ⟨rfl, rfl⟩,
        .inr ⟨rfl, rfl⟩⟩
    · exact ⟨_, d, r, if_neg fun hw => h (of_decide_eq_true hw),
        if_neg fun hw => h (of_decide_eq_true hw), .inr ⟨rfl, rfl⟩, .inr ⟨rfl, rfl⟩⟩
  | sbox n | pad n =>
    by_cases h : n.toNat < 8
    · exact ⟨_, _, r, if_pos (decide_eq_true h), if_pos (decide_eq_true h), .inl rfl,
        .inr ⟨rfl, rfl⟩⟩
    · exact ⟨_, d, r, if_neg fun hw => h (of_decide_eq_true hw),
        if_neg fun hw => h (of_decide_eq_true hw), .inr ⟨rfl, rfl⟩, .inr ⟨rfl, rfl⟩⟩
  | modexp =>
    by_cases h : s.rsaMod = 0#32
    · exact ⟨_, d, r, if_pos h, if_pos h, .inr ⟨rfl, rfl⟩, .inr ⟨rfl, rfl⟩⟩
    · exact ⟨_, d, _, if_neg h, if_neg h, .inr ⟨rfl, rfl⟩, .inl rfl⟩
  | encBlock | decBlock | cbcEnc | cbcDec =>
    simp only [execWith, execEncBlockWith, execDecBlockWith, execCbcEncWith, execCbcDecWith,
      State.withResults_din, State.withResults_chain, State.withResults_blockResult,
      State.withResults_runBlock]
    exact ⟨_, _, r, rfl, rfl, .inl rfl, .inr ⟨rfl, rfl⟩⟩
  | ip | fp | expand | pperm | pc1 | pc2 | ffunc | unpad | ivGen | blkStore =>
    exact ⟨_, _, r, rfl, rfl, .inl rfl, .inr ⟨rfl, rfl⟩⟩

/-- Settles O45: R41's "host only" for DOUT and RSA_RES. -/
theorem noCommandReadsResults : Obligations.NoCommandReadsResults := by
  intro i s t d r h
  obtain ⟨u, d', r', hu, hres, hkept⟩ := execWith_withResults tables i s d r
  rw [exec_eq_execWith, hu] at h
  cases h
  exact ⟨d', r', (exec_eq_execWith i _).trans hres, hkept⟩

end Sys2Proof.Machine
end

section
/-!
PROOFS. STATUS, CTRL and the interrupt output (10_state.md R23, R24, R36), and the step that runs a
pending command (R35).
-/
namespace Sys2Proof.Machine

/-- Settles O8: the fields of STATUS by position (R24). -/
theorem statusWordFields : Obligations.StatusWordFields := by
  intro s k
  have hbusy : s.busy = decide (s.pending ≠ none) := by
    cases hp : s.pending <;> simp [State.busy, hp]
  simp only [State.statusWord, BitVec.getLsbD_append, BitVec.getLsbD_ofBool, BitVec.getLsbD_zero,
    hbusy]
  by_cases hk : k < 12
  · interval_cases k <;> simp
  · simp [show k ≠ 0 by omega, show k ≠ 1 by omega, show k ≠ 2 by omega, show ¬ k ≤ 11 by omega,
      show k - 1 ≠ 0 by omega, show k - 1 - 1 ≠ 0 by omega, show ¬ k - 1 - 1 - 1 - 5 < 4 by omega]

/-- Settles O9, from R36's formula. -/
theorem interruptOutput : Obligations.InterruptOutput := by
  refine ⟨fun s => ?_, rfl⟩
  simp only [State.irq, Bool.or_eq_true, Bool.and_eq_true]

/-- Settles O10: both writes reach their register whatever PENDING holds (R56). -/
theorem ctrlAndStatusWrites : Obligations.CtrlAndStatusWrites :=
  fun s v => ⟨rfl, s.writeStatus_eq v⟩

/-- When the engine's turn is next, or no event waits, a step is the engine's turn with it taken off
the schedule (R62; log entry 3). -/
theorem step_eq_engineTurn {s : State} {rest : List Event}
    (h : s.events = .engine :: rest ∨ (s.events = [] ∧ rest = [])) :
    step s = engineTurn (s.schedule rest) := by
  obtain h | ⟨h, rfl⟩ := h
  · exact step_cons h
  · rw [step_nil h, State.schedule, ← h]

/-- Settles O21 (R35, R266). -/
theorem stepRunsThePendingCommand : Obligations.StepRunsThePendingCommand := by
  intro s rest h
  rw [step_eq_engineTurn h]
  exact ⟨fun w i hp hd _ => engineTurn_some hp hd, fun hp => engineTurn_none hp⟩

end Sys2Proof.Machine
end

section
/-!
PROOFS. The register window on the bus: the register map, reads, writes, bus errors, and where the
machine stops (20_memory.md R50 to R56).
-/
namespace Sys2Proof.Machine

/-! ### The register map -/

/-- R31, R53: a value narrower than its word reads with 0 above it. -/
theorem zero_append_eq_setWidth {w n : Nat} (x : BitVec n) : 0#w ++ x = x.setWidth (w + n) := by
  rw [BitVec.setWidth_eq_append (by omega)]
  apply BitVec.eq_of_toNat_eq
  simp

/-- R53: keeping the low `n` bits of a word is masking it. -/
theorem zero_append_extractLsb' (w n : Nat) (v : BitVec (w + n)) :
    0#w ++ v.extractLsb' 0 n = v &&& (BitVec.allOnes n).setWidth (w + n) := by
  rw [BitVec.and_setWidth_allOnes, BitVec.setWidth_eq_extractLsb' (by omega)]

/-- R52: CMD and the reserved offsets read 0. -/
theorem State.readReg_reserved (s : State) {off : Nat} (h : off = 0x0C ∨ off = 0x14 ∨ 0x60 ≤ off) :
    s.readReg off = 0#32 := by
  unfold State.readReg
  split
  case h_4 | h_24 => rfl
  all_goals omega

/-- R23: CTRL as a number. -/
theorem State.ctrlWord_eq (s : State) :
    s.ctrlWord = BitVec.ofNat 32 (s.ieDone.toNat + 2 * s.ieErr.toNat) := by
  unfold State.ctrlWord
  cases s.ieDone <;> cases s.ieErr <;> rfl

/-- R32, R53: the two words of SK. -/
theorem State.readReg_sk (s : State) : s.readReg 0x40 ++ s.readReg 0x44 = s.sk.setWidth 64 := by
  change (0#16 ++ s.sk.extractLsb' 32 16) ++ s.sk.extractLsb' 0 32 = s.sk.setWidth (16 + 48)
  have halves : s.sk.extractLsb' 32 16 ++ s.sk.extractLsb' 0 32 = s.sk := by
    rw [BitVec.extractLsb'_append_extractLsb'_eq_extractLsb' (start₁ := 0) (len₁ := 32) rfl]
    exact BitVec.extractLsb'_eq_self
  rw [← zero_append_eq_setWidth, BitVec.append_assoc, BitVec.cast_eq, halves]

/-- Settles O15: a register of its own word reads by definition; the halves of a pair join to it, and
a narrower register reads with 0 above it (R51 to R53). -/
theorem registerMapReads : Obligations.RegisterMapReads := fun s =>
  ⟨rfl, s.ctrlWord_eq, rfl, rfl, rfl, hi32_append_lo32 _, hi32_append_lo32 _, hi32_append_lo32 _,
    hi32_append_lo32 _, zero_append_eq_setWidth _, zero_append_eq_setWidth _, s.readReg_sk,
    rfl, rfl, rfl, rfl, rfl, rfl, fun _ h => s.readReg_reserved (.inr h)⟩

/-! ### Accesses as events, and where the machine stops -/

/-- A read event in the window is the read at its offset (R50). -/
theorem handleEvent_read_base {s : State} {off : Nat} {size : Size} (h : off < 0x100) :
    handleEvent (.read (Config.base + off) size) s = .next (s.readAt off size) := by
  simp only [handleEvent, handleEventBy, State.hostRead, windowOffset_base h]

/-- A write event in the window is the write at its offset (R50). -/
theorem handleEvent_write_base {s : State} {off : Nat} {size : Size} {v : Word} (h : off < 0x100) :
    handleEvent (.write (Config.base + off) size v) s = .next (s.writeAt off size v) := by
  simp only [handleEvent, handleEventBy, State.hostWrite, windowOffset_base h]

/-- Settles O12: both accesses test size and alignment before anything else (R54). -/
theorem busErrorHasNoEffect : Obligations.BusErrorHasNoEffect := by
  intro s off size v hlt h
  have hal : ¬ wordAligned off size = true := by
    simpa only [wordAligned, Bool.and_eq_true, decide_eq_true_eq] using h
  rw [handleEvent_read_base hlt, handleEvent_write_base hlt, State.readAt, State.writeAt,
    if_neg hal, if_neg hal]
  exact ⟨rfl, rfl⟩

/-- The engine's turn always answers a next state (R266, R278; log entry 14). -/
theorem engineTurn_next (s : State) : ∃ t, engineTurn s = .next t := by
  cases hp : s.pending with
  | none => exact ⟨s, engineTurn_none hp⟩
  | some w =>
    cases hd : decode w with
    | error e =>
      refine ⟨s.reject .illegalCmd w, ?_⟩
      simp only [engineTurn, engineTurnBy, runWordBy, hp, hd]
    | ok i =>
      rw [engineTurn_some hp hd]
      rcases exec_next i s with ⟨code, info, h⟩ | ⟨t, h⟩ <;> exact ⟨_, h⟩

/-- A host access outside the window stops the machine (log entry 9). -/
theorem handleEvent_outside {e : Event} (s : State) (h : e.inWindow = false) :
    handleEvent e s = .fault .outsideWindow := by
  cases e with
  | read a z | write a z v =>
    have hoff : windowOffset a = none := by simpa [Event.inWindow] using h
    simp only [handleEvent, handleEventBy, State.hostRead, State.hostWrite, hoff]
  | engine | reset => cases h

/-- Every other event answers a next state. -/
theorem handleEvent_inside {e : Event} (s : State) (h : e.inWindow = true) :
    ∃ t, handleEvent e s = .next t := by
  cases e with
  | read a z | write a z v =>
    obtain ⟨off, hoff⟩ := Option.isSome_iff_exists.1 h
    simp only [handleEvent, handleEventBy, State.hostRead, State.hostWrite, hoff]
    exact ⟨_, rfl⟩
  | engine => exact engineTurn_next s
  | reset => exact ⟨_, rfl⟩

/-- Settles O13: a step is one event, or the engine's turn on an empty schedule. -/
theorem stepStopsOnlyOutsideWindow : Obligations.StepStopsOnlyOutsideWindow := by
  intro s
  constructor
  · rintro ⟨e, rest, he, hw⟩
    rw [step_cons he]
    exact handleEvent_outside _ hw
  · intro hin
    cases he : s.events with
    | nil =>
      rw [step_nil he]
      exact engineTurn_next s
    | cons e rest =>
      rw [step_cons he]
      exact handleEvent_inside _ (Bool.of_not_eq_false fun hw => hin ⟨e, rest, he, hw⟩)

/-! ### Reads -/

/-- When a read answers the free value of a busy read (R39, R55). -/
theorem busyRead_iff (s : State) (off : Nat) :
    (isDataOffset off && s.busy) = true ↔ 0x18 ≤ off ∧ off ≤ 0x5C ∧ s.pending ≠ none := by
  rw [Bool.and_eq_true, isDataOffset, Bool.and_eq_true, decide_eq_true_eq, decide_eq_true_eq,
    State.busy, Option.isSome_iff_ne_none, and_assoc]

/-- Settles O14: a read is a busy read of a data register, or the register's own value (R55). -/
theorem busReadReturns : Obligations.BusReadReturns := by
  intro s off hlt h4
  refine ⟨(s.busRead off).1, ?_⟩
  rw [handleEvent_read hlt h4]
  by_cases hb : 0x18 ≤ off ∧ off ≤ 0x5C ∧ s.pending ≠ none
  · rw [State.busRead, if_pos ((busyRead_iff s off).2 hb), if_pos hb]
    exact ⟨rfl, fun h => by omega, fun _ => rfl, fun h => absurd hb h⟩
  · rw [State.busRead, if_neg (mt (busyRead_iff s off).1 hb), if_neg hb]
    exact ⟨rfl, s.readReg_reserved, fun h => absurd h hb, fun _ => rfl⟩

/-! ### Writes -/

/-- The offsets of the writable data registers (R51). -/
theorem isWritableData_iff (off : Nat) :
    isWritableData off = true ↔ (0x18 ≤ off ∧ off ≤ 0x24) ∨ (0x30 ≤ off ∧ off ≤ 0x58) := by
  simp only [isWritableData, Bool.or_eq_true, Bool.and_eq_true, decide_eq_true_eq]

/-- A write to a data register is `writeDataOrRefuse`: CTRL, STATUS and CMD lie below (R51, R56). -/
theorem State.busWrite_data (s : State) {off : Nat} (v : Word) (hw : isWritableData off = true) :
    s.busWrite off v = s.writeDataOrRefuse off v := by
  have hoff := (isWritableData_iff off).1 hw
  rw [State.busWrite, if_neg (by omega), if_neg (by omega), if_neg (by omega), if_pos hw]

/-- A write to a read-only or reserved offset is discarded (R52, R56). -/
theorem State.busWrite_discarded (s : State) {off : Nat} (v : Word)
    (h : off ∈ [0x00, 0x10, 0x14, 0x28, 0x2C, 0x5C] ∨ 0x60 ≤ off) : s.busWrite off v = s := by
  simp only [List.mem_cons, List.not_mem_nil, or_false] at h
  have hw : ¬ isWritableData off = true := by
    rw [isWritableData_iff]
    omega
  rw [State.busWrite, if_neg (by omega), if_neg (by omega), if_neg (by omega), if_neg hw]

/-- The bits of the word at `off` that are used (R51, R53). -/
def usedMask (off : Nat) : Word :=
  if off = 0x38 ∨ off = 0x3C then 0x0FFFFFFF#32
  else if off = 0x40 then 0x0000FFFF#32 else 0xFFFFFFFF#32

/-- R32: the high part of SK, at the widths with which `readReg` and `writeData` take it. -/
theorem skHigh_append (a : BitVec 16) (b : Word) : (a ++ b).extractLsb' 32 16 = a :=
  BitVec.extractLsb'_append_eq_left

/-- R32: the low word of SK, at the widths with which `readReg` and `writeData` take it. -/
theorem skLow_append (a : BitVec 16) (b : Word) : (a ++ b).extractLsb' 0 32 = b :=
  BitVec.extractLsb'_append_eq_right

/-- An idle write is read back at its offset, masked to the used bits (R53, R56). The cases are those of
`writeData`: KS_C and KS_D, the two words of SK, the halves of the 64-bit pairs, the registers of a
whole word, and no writable offset at all. -/
theorem State.readReg_writeData_same (s : State) {off : Nat} (v : Word) (h4 : off % 4 = 0)
    (hw : isWritableData off = true) : (s.writeData off v).readReg off = v &&& usedMask off := by
  have hfull : v = v &&& 0xFFFFFFFF#32 := BitVec.and_allOnes.symm
  unfold State.writeData
  split
  case h_7 | h_8 => exact zero_append_extractLsb' 4 28 v
  case h_9 =>
    exact (congrArg (0#16 ++ ·) (skHigh_append _ _)).trans (zero_append_extractLsb' 16 16 v)
  case h_10 => exact (skLow_append _ _).trans hfull
  case h_1 | h_3 | h_5 => exact (hi32_append _ _).trans hfull
  case h_2 | h_4 | h_6 => exact (lo32_append _ _).trans hfull
  case h_11 | h_12 | h_13 | h_14 | h_15 => exact hfull
  case h_16 =>
    have hoff := (isWritableData_iff off).1 hw
    simp only [imp_false] at *
    omega

/-- A write to a data register changes what no other offset reads: there stands another register, or
the other half of the pair (R51, R53). -/
theorem State.readReg_writeData_other (s : State) {off other : Nat} (v : Word) (h : other ≠ off) :
    (s.writeData off v).readReg other = s.readReg other := by
  unfold State.writeData
  split
  case h_16 => rfl
  all_goals
    unfold State.readReg
    split
    all_goals
      simp only [ne_eq, not_true_eq_false, hi32_append, lo32_append, skHigh_append, skLow_append,
        State.ctrlWord, State.statusWord, State.busy] at h ⊢

/-- Settles O16: the idle write, the refused one, the discarded one, and the write as an event. -/
theorem hostWriteIsReadBackAlone : Obligations.HostWriteIsReadBackAlone := by
  intro s off v hlt h4
  refine ⟨fun hoff hidle => ?_, fun hoff hbusy => ?_, s.busWrite_discarded v,
    handleEvent_write hlt h4⟩
  · have hw := (isWritableData_iff off).2 hoff
    have hwrite : s.busWrite off v = s.writeData off v := by
      rw [s.busWrite_data v hw, State.writeDataOrRefuse, State.busy, hidle]
      rfl
    rw [hwrite]
    exact ⟨s.readReg_writeData_same v h4 hw, fun other => s.readReg_writeData_other v⟩
  · rw [s.busWrite_data v ((isWritableData_iff off).2 hoff), State.writeDataOrRefuse, State.busy,
      if_pos (Option.isSome_iff_ne_none.2 hbusy)]
    rfl

end Sys2Proof.Machine
end

section
/-!
PROOFS. Command words and commands (30_encoding.md R80, R83 to R85), and the words of commands that are
rejected when CMD is written (R86).
-/
namespace Sys2Proof

/-- A command's word decodes to the command, whatever its operand: RoundTrip for every constructor
(R80 to R83). -/
theorem decode_encode (i : Instr) : decode (encode i) = .ok i := by
  cases i with
  | nop => exact Laws.RoundTrip.nop
  | sreset => exact Laws.RoundTrip.sreset
  | ip => exact Laws.RoundTrip.ip
  | fp => exact Laws.RoundTrip.fp
  | expand => exact Laws.RoundTrip.expand
  | pperm => exact Laws.RoundTrip.pperm
  | pc1 => exact Laws.RoundTrip.pc1
  | pc2 => exact Laws.RoundTrip.pc2
  | sbox n => exact Laws.RoundTrip.sbox n
  | ffunc => exact Laws.RoundTrip.ffunc
  | blkLoad => exact Laws.RoundTrip.blkLoad
  | round => exact Laws.RoundTrip.round
  | blkStore => exact Laws.RoundTrip.blkStore
  | encBlock => exact Laws.RoundTrip.encBlock
  | decBlock => exact Laws.RoundTrip.decBlock
  | ksEncStep n => exact Laws.RoundTrip.ksEncStep n
  | ksDecStep n => exact Laws.RoundTrip.ksDecStep n
  | cbcEnc => exact Laws.RoundTrip.cbcEnc
  | cbcDec => exact Laws.RoundTrip.cbcDec
  | ivGen => exact Laws.RoundTrip.ivGen
  | pad n => exact Laws.RoundTrip.pad n
  | unpad => exact Laws.RoundTrip.unpad
  | modexp => exact Laws.RoundTrip.modexp

/-- The word of a command is the only word that decodes to it (R83 to R85). -/
theorem decode_eq_ok_iff {w : Word} {i : Instr} : decode w = .ok i ↔ w = encode i :=
  ⟨eq_encode_of_decode, fun h => h ▸ decode_encode i⟩

/-- Settles O1: `eq_encode_of_decode` one way, `decode_encode` the other. -/
theorem wordDecodesExactlyToItsCommand : Obligations.WordDecodesExactlyToItsCommand :=
  fun _ _ => decode_eq_ok_iff

/-- Settles O2: each word is its command's word (R83), so it decodes to that command. -/
theorem sampleWordsDecode : Obligations.SampleWordsDecode := by
  simp only [Obligations.SampleWordsDecode, decode_eq_ok_iff]
  decide

end Sys2Proof

namespace Sys2Proof.Machine

/-- R264 step 4: Check's answer for an operand out of range. -/
theorem State.check_encode_illFormed (s : State) {i : Instr} (hi : i.wellFormed = false) :
    s.check (encode i) = .badOperand := by
  rw [s.check_of_command (decode_encode i), if_neg (Bool.eq_false_iff.1 hi)]

/-- R264 step 5: Check's answer for MODEXP with modulus 0. -/
theorem State.check_encode_modexp (s : State) (hm : s.rsaMod = 0#32) :
    s.check (encode .modexp) = .modZero := by
  have hw : Instr.modexp.wellFormed = true := rfl
  rw [s.check_of_command (decode_encode .modexp), if_pos hw, if_pos ⟨rfl, hm⟩]

/-- R260: an idle CMD write of a word that Check refuses records the error and clears DONE; every field
not named, PENDING among them, keeps its value. -/
theorem State.busWrite_cmd_refused {s : State} {w : Word} {code : ErrCode} (hidle : s.pending = none)
    (hcheck : s.check w = code) (hcode : code ≠ .none) :
    s.busWrite 0x0C w =
      { s with
        done := false
        err := true
        errCode := if s.err then s.errCode else code
        errInfo := if s.err then s.errInfo else w } := by
  subst hcheck
  have hreject : s.busWrite 0x0C w = s.reject (s.check w) w := by
    obtain ⟨hbusy, -⟩ | ⟨-, hpass, -⟩ | ⟨-, -, heq⟩ := s.submit_cases w
    · exact absurd hidle hbusy
    · exact absurd hpass hcode
    · exact heq
  rw [hreject, State.reject, State.raiseError, ← hidle]

/-- Settles O4: both words decode to their command, and Check refuses it (R86, R264). -/
theorem outOfRangeAndZeroModulusRejected : Obligations.OutOfRangeAndZeroModulusRejected :=
  fun s hidle =>
    ⟨fun _ hi => State.busWrite_cmd_refused hidle (s.check_encode_illFormed hi) (by decide),
      fun hm => State.busWrite_cmd_refused hidle (s.check_encode_modexp hm) (by decide)⟩

end Sys2Proof.Machine
end

section
/-!
PROOFS. The control commands NOP and SRESET (41_control.md R100, R101).
-/
namespace Sys2Proof.Machine

/-- R100: NOP is the common completion of R266 and nothing else. -/
theorem exec_nop (s : State) : exec .nop s = .next s.complete := rfl

/-- R101: SRESET clears the data registers and the error record, then completes. -/
theorem exec_sreset (s : State) : exec .sreset s = .next s.clearData.clearError.complete := rfl

/-- What SRESET leaves is what the reset input leaves (R290), but for CTRL, which it keeps, and DONE,
which its completion sets. -/
theorem State.clearData_clearError_complete (s : State) :
    s.clearData.clearError.complete =
      { s.applyReset with ieDone := s.ieDone, ieErr := s.ieErr, done := true } := rfl

/-- Settles O26: NOP completes; SRESET's end state is the reset action's but for CTRL and DONE. -/
theorem nopAndSresetFinalState : Obligations.NopAndSresetFinalState := by
  intro s
  refine ⟨exec_nop s, ?_⟩
  rw [exec_sreset, State.clearData_clearError_complete, State.applyReset]

end Sys2Proof.Machine
end

section
/-!
PROOFS. The permutation and substitution commands (42_permutation_substitution.md R120 to R126), and
FP as the inverse of IP (R111).
-/
namespace Sys2Proof.Machine

/-! ### IP and FP are inverse to each other -/

/-- R111(a): the entries of IP are positions of a block. -/
theorem DesTables.Valid.ip_entries {T : DesTables} (hT : T.Valid) :
    T.ip.length = 64 ∧ ∀ k ∈ T.ip, 1 ≤ k ∧ k ≤ 64 := by
  obtain ⟨hip, -⟩ := hT
  refine ⟨by simpa using hip.length_eq, fun k hk => ?_⟩
  have := List.mem_range'_1.1 (hip.mem_iff.1 hk)
  omega

/-- R111(b): the entries of FP are positions of a block. -/
theorem DesTables.Valid.fp_entries {T : DesTables} (hT : T.Valid) :
    T.fp.length = 64 ∧ ∀ k ∈ T.fp, 1 ≤ k ∧ k ≤ 64 := by
  obtain ⟨-, ⟨hlen, hrange, -⟩, -⟩ := hT
  exact ⟨hlen, hrange⟩

/-- R111(b), entry by entry: IP holds k at the position that FP holds at k. -/
theorem DesTables.Valid.ip_getD_fp_getD {T : DesTables} (hT : T.Valid) {k : Nat} (h1 : 1 ≤ k)
    (hk : k ≤ 64) : T.ip.getD (T.fp.getD (k - 1) 0 - 1) 0 = k := by
  obtain ⟨-, ⟨hlen, -, hinv⟩, -⟩ := hT
  have hlt : k - 1 < T.fp.length := by omega
  calc T.ip.getD (T.fp.getD (k - 1) 0 - 1) 0
      = (T.fp.map fun j => T.ip.getD (j - 1) 0)[k - 1]'(by simpa using hlt) := by
        rw [List.getElem_map, List.getD_eq_getElem _ _ hlt]
    _ = k := by
        simp only [hinv, List.getElem_range']
        omega

/-- R111(b): FP undoes IP, since position k of the result is position `IP[FP[k]]` of the block. -/
theorem fpf_ipf {T : DesTables} (hT : T.Valid) (x : Block) : fpf T (ipf T x) = x := by
  obtain ⟨hipLen, -⟩ := hT.ip_entries
  obtain ⟨hfpLen, hfpRange⟩ := hT.fp_entries
  refine eq_of_pos fun k h1 hk => ?_
  obtain ⟨hlo, hhi⟩ := getD_mem_range hfpRange hfpLen h1 hk
  rw [fpf, pos_permute _ _ hfpLen h1 hk, ipf, pos_permute _ _ hipLen hlo hhi,
    hT.ip_getD_fp_getD h1 hk]

/-- IP undoes FP: on the finitely many blocks a left inverse is a right inverse. -/
theorem ipf_fpf {T : DesTables} (hT : T.Valid) (x : Block) : ipf T (fpf T x) = x := by
  have hleft : Function.LeftInverse (fpf T) (ipf T) := fpf_ipf hT
  exact hleft.rightInverse_of_surjective (Finite.injective_iff_surjective.1 hleft.injective) x

/-- Settles O47: the two directions of R111(b). -/
theorem finalPermutationInvertsInitial : Obligations.FinalPermutationInvertsInitial :=
  fun _ hT x => ⟨fpf_ipf hT x, ipf_fpf hT x⟩

/-! ### The end state of each command (R120 to R126) -/

/-- The common end of the commands that write DOUT alone. It is stated for any value: by `rfl` at a
command's own value Lean would evaluate the table. -/
theorem State.setDout_complete (s : State) (v : Block) :
    (s.setDout v).complete = { s with dout := v, pending := none, done := true } := rfl

theorem exec_ip (s : State) :
    exec .ip s = .next { s with dout := ipf tables s.din, pending := none, done := true } :=
  congrArg Host.Outcome.next (s.setDout_complete _)

theorem exec_fp (s : State) :
    exec .fp s = .next { s with dout := fpf tables s.din, pending := none, done := true } :=
  congrArg Host.Outcome.next (s.setDout_complete _)

theorem exec_expand (s : State) :
    exec .expand s =
      .next { s with dout := zext64 (ef tables s.din32), pending := none, done := true } :=
  congrArg Host.Outcome.next (s.setDout_complete _)

theorem exec_pperm (s : State) :
    exec .pperm s =
      .next { s with dout := zext64 (pf tables s.din32), pending := none, done := true } :=
  congrArg Host.Outcome.next (s.setDout_complete _)

theorem exec_pc1 (s : State) :
    exec .pc1 s =
      .next { s with dout := zext64 (pc1f tables s.din), pending := none, done := true } :=
  congrArg Host.Outcome.next (s.setDout_complete _)

theorem exec_pc2 (s : State) :
    exec .pc2 s =
      .next { s with dout := zext64 (pc2f tables s.din56), pending := none, done := true } :=
  congrArg Host.Outcome.next (s.setDout_complete _)

/-- R126: SBOX n, for the operands that Check passes. -/
theorem exec_sbox (s : State) {n : Byte} (hn : n.toNat < 8) :
    exec (.sbox n) s =
      .next
        { s with
          dout := zext64 (sboxLookup tables n.toNat s.din6)
          pending := none
          done := true } :=
  (if_pos (decide_eq_true hn)).trans (congrArg Host.Outcome.next (s.setDout_complete _))

/-! ### Positions of a zero-extended value -/

/-- R29: the positions above a value that is zero-extended to a block are 0. -/
theorem pos_zext64_high {w a : Nat} (ha : a + w = 64) (v : BitVec w) {k : Nat} (hk : k ≤ a) :
    pos (zext64 v) k = false := by
  rw [pos, zext64, BitVec.getLsbD_setWidth, BitVec.getLsbD_of_ge v _ (by omega), Bool.and_false]

/-- R29: position k of a value of width `64 - a` is position `a + k` of its zero extension. -/
theorem pos_zext64_low {w a : Nat} (ha : a + w = 64) (v : BitVec w) {k : Nat} (h1 : 1 ≤ k) :
    pos (zext64 v) (a + k) = pos v k := by
  have hlt : 64 - (a + k) < 64 := by omega
  rw [pos, zext64, BitVec.getLsbD_setWidth, decide_eq_true hlt, Bool.true_and, pos]
  congr 1
  omega

/-- R9, R29: position k of a permuted value, in its zero extension. -/
theorem pos_zext64_permute {w m a : Nat} (ha : a + m = 64) {T : List Nat} (hlen : T.length = m)
    (v : BitVec w) {k : Nat} (h1 : 1 ≤ k) (hk : k ≤ m) :
    pos (zext64 (permute T v m)) (a + k) = pos v (T.getD (k - 1) 0) := by
  rw [pos_zext64_low ha _ h1, pos_permute _ _ hlen h1 hk]

/-- R9, R29: the same for a permutation of the low w bits of a block, whose position k is position
`b + k` of the block. -/
theorem pos_zext64_permute_lowBits {w m a b : Nat} (ha : a + m = 64) (hb : b + w = 64)
    {T : List Nat} (hlen : T.length = m) (hrange : ∀ j ∈ T, 1 ≤ j ∧ j ≤ w) (x : Block) {k : Nat}
    (h1 : 1 ≤ k) (hk : k ≤ m) :
    pos (zext64 (permute T (x.extractLsb' 0 w) m)) (a + k) = pos x (b + T.getD (k - 1) 0) := by
  obtain ⟨hlo, hhi⟩ := getD_mem_range hrange hlen h1 hk
  rw [pos_zext64_permute ha hlen _ h1 hk, pos_extractLsb'_zero x (by omega) hlo hhi,
    show 64 - w = b by omega]

/-! ### The permutation commands -/

/-- Settles O27: `pos_permute` at the two 64-entry tables (R112, R113). -/
theorem blockPermutationsPlacePositions : Obligations.BlockPermutationsPlacePositions := fun s =>
  ⟨⟨_, exec_ip s, fun _ => pos_permute fipsIp s.din rfl⟩,
    ⟨_, exec_fp s, fun _ => pos_permute fipsFp s.din rfl⟩⟩

/-- The entries of E are positions of a 32-bit word (R111, R114). -/
theorem fipsE_range : ∀ j ∈ fipsE, 1 ≤ j ∧ j ≤ 32 := by decide

/-- The entries of P are positions of a 32-bit word (R111, R115). -/
theorem fipsP_range : ∀ j ∈ fipsP, 1 ≤ j ∧ j ≤ 32 := by decide

/-- The entries of PC2 are positions of a 56-bit value (R111, R117). -/
theorem fipsPc2_range : ∀ j ∈ fipsPc2, 1 ≤ j ∧ j ≤ 56 := by decide

/-- Settles O28: EXPAND, PPERM and PC2 permute the low bits of DIN, PC1 all of it; each result is
zero-extended (R122 to R125). -/
theorem narrowPermutationsPlacePositions : Obligations.NarrowPermutationsPlacePositions := by
  intro s
  refine ⟨⟨_, exec_expand s, fun _ _ => pos_zext64_high rfl _, fun _ => ?expand⟩,
    ⟨_, exec_pperm s, fun _ _ => pos_zext64_high rfl _, fun _ => ?pperm⟩,
    ⟨_, exec_pc1 s, fun _ _ => pos_zext64_high rfl _, fun _ => ?pc1⟩,
    ⟨_, exec_pc2 s, fun _ _ => pos_zext64_high rfl _, fun _ => ?pc2⟩⟩
  case expand => exact pos_zext64_permute_lowBits rfl rfl rfl fipsE_range s.din
  case pperm => exact pos_zext64_permute_lowBits rfl rfl rfl fipsP_range s.din
  case pc1 => exact pos_zext64_permute (m := 56) rfl rfl s.din
  case pc2 => exact pos_zext64_permute_lowBits rfl rfl rfl fipsPc2_range s.din

/-! ### SBOX -/

/-- What holds of every element of a list and of the default holds of every entry read. -/
theorem getD_of_forall_mem {α : Type} {p : α → Prop} {l : List α} {d : α} (hl : ∀ a ∈ l, p a)
    (hd : p d) (n : Nat) : p (l.getD n d) := by
  by_cases hn : n < l.length
  · rw [List.getD_eq_getElem _ _ hn]
    exact hl _ (List.getElem_mem hn)
  · rwa [List.getD_eq_default _ _ (Nat.le_of_not_lt hn)]

/-- R111: every entry of an S-box is a 4-bit value; off the table's shape 0 is read
(log entry 16). -/
theorem sbox_getD_le {T : DesTables} (hT : ∀ S ∈ T.sbox, ∀ r ∈ S, ∀ v ∈ r, v ≤ 15)
    (n row col : Nat) : ((T.sbox.getD n []).getD row []).getD col 0 ≤ 15 := by
  have hbox : ∀ r ∈ T.sbox.getD n [], ∀ v ∈ r, v ≤ 15 :=
    getD_of_forall_mem (p := fun S => ∀ r ∈ S, ∀ v ∈ r, v ≤ 15) hT (by simp) n
  have hrow : ∀ v ∈ (T.sbox.getD n []).getD row [], v ≤ 15 :=
    getD_of_forall_mem (p := fun r => ∀ v ∈ r, v ≤ 15) hbox (by simp) row
  exact getD_of_forall_mem (p := (· ≤ 15)) hrow (Nat.zero_le _) col

/-- The entries of the default S-boxes are 4-bit values (R111, R118). -/
theorem fipsTables_sbox_range : ∀ S ∈ fipsTables.sbox, ∀ r ∈ S, ∀ v ∈ r, v ≤ 15 := by decide

/-- A natural below `2 ^ w` is zero-extended as itself. -/
theorem zext64_ofNat {w v : Nat} (hv : v < 2 ^ w) :
    zext64 (BitVec.ofNat w v) = BitVec.ofNat 64 v := by
  apply BitVec.eq_of_toNat_eq
  rw [zext64, BitVec.toNat_setWidth, BitVec.toNat_ofNat, BitVec.toNat_ofNat, Nat.mod_eq_of_lt hv]

/-- Settles O29: the row and the column are numbers of DIN's low six bits, and the 4-bit entry is
zero-extended as itself (R118, R126). -/
theorem sboxReadsTableEntry : Obligations.SboxReadsTableEntry := by
  intro s n hn
  have hdin6 : s.din6.toNat = s.din.toNat % 64 := by simp [State.din6]
  have hrow : sboxRow s.din6 = s.din.toNat / 32 % 2 * 2 + s.din.toNat % 2 := by
    rw [sboxRow_eq, hdin6]
    omega
  have hcol : sboxCol s.din6 = s.din.toNat / 2 % 16 := by
    rw [sboxCol_eq, hdin6]
    omega
  have hentry := sbox_getD_le fipsTables_sbox_range n.toNat (sboxRow s.din6) (sboxCol s.din6)
  rw [exec_sbox s hn, sboxLookup, tables, zext64_ofNat (by omega), hrow, hcol]

end Sys2Proof.Machine
end

section
/-!
PROOFS. The key schedule in closed form (44_key_schedule.md R170, R171): after every round its halves
are those of PC1f(KEY), rotated left.
-/
namespace Sys2Proof.Machine

/-- How far the halves of PC1f(KEY) stand rotated to the left after encryption round i (R171). -/
def encRotation (i : Nat) : Nat := ((List.range (i + 1)).map shiftAmount).sum

/-- How far they stand rotated to the left after round i of either direction: decryption goes through
the encryption's rounds backwards (R175). -/
def keyRotation (dir : Dir) (i : Nat) : Nat :=
  match dir with
  | .enc => encRotation i
  | .dec => encRotation (15 - i)

/-- The subkey read from the halves of PC1f(KEY) rotated left by n. -/
def rotatedSubkey (T : DesTables) (key : Block) (n : Nat) : SubKey :=
  pc2f T ((keyHalfC T key).rotateLeft n ++ (keyHalfD T key).rotateLeft n)

/-- The datapath registers with the key schedule rotated left by n and the block's halves `h`. -/
def scheduleDatapath (T : DesTables) (key : Block) (n : Nat) (h : Word × Word) : Datapath where
  halfL := h.1
  halfR := h.2
  ksC := (keyHalfC T key).rotateLeft n
  ksD := (keyHalfD T key).rotateLeft n
  sk := rotatedSubkey T key n

/-- R170: no round rotates by more than two. -/
theorem shiftAmount_le_two (i : Nat) : shiftAmount i ≤ 2 :=
  getD_of_forall_mem (p := (· ≤ 2)) (by decide) (by decide) i

theorem encRotation_succ (i : Nat) : encRotation (i + 1) = encRotation i + shiftAmount (i + 1) := by
  simp [encRotation, List.range_succ (n := i + 1)]

/-- R175: what decryption round `i + 1` rotates back is what encryption round `15 - i` rotated. -/
theorem encRotation_backwards : ∀ i < 15,
    shiftAmount (i + 1) ≤ encRotation (15 - i)
    ∧ encRotation (15 - i) - shiftAmount (i + 1) = encRotation (15 - (i + 1)) := by
  decide

/-- A full turn of a half of the key schedule. -/
theorem rotateLeft_full_turn (x : KeyHalf) : x.rotateLeft 28 = x := by
  apply BitVec.eq_of_getLsbD_eq
  intro i hi
  rw [getLsbD_rotateLeft_keyHalf _ _ hi, show (i + 28 - 28 % 28) % 28 = i by omega]

/-- R171: round 0 brings a freshly loaded half to its rotation. -/
theorem rotateHalf_zero (dir : Dir) (x : KeyHalf) :
    rotateHalf dir 0 x = x.rotateLeft (keyRotation dir 0) := by
  cases dir with
  | enc => exact rotl28_eq_rotateLeft x (by decide)
  | dec => exact (rotateLeft_full_turn x).symm

/-- R171: each later round takes a half from one rotation to the next. -/
theorem rotateHalf_succ (dir : Dir) (x : KeyHalf) {i : Nat} (hi : i < 15) :
    rotateHalf dir (i + 1) (x.rotateLeft (keyRotation dir i)) =
      x.rotateLeft (keyRotation dir (i + 1)) := by
  have hshift := shiftAmount_le_two (i + 1)
  cases dir with
  | enc =>
    calc rotl28 (x.rotateLeft (encRotation i)) (shiftAmount (i + 1))
        = x.rotateLeft (encRotation i + shiftAmount (i + 1)) := rotl28_rotateLeft x _ hshift
      _ = x.rotateLeft (encRotation (i + 1)) := by rw [encRotation_succ]
  | dec =>
    obtain ⟨hle, hback⟩ := encRotation_backwards i hi
    calc rotr28 (x.rotateLeft (encRotation (15 - i))) (shiftAmount (i + 1))
        = x.rotateLeft (encRotation (15 - i) - shiftAmount (i + 1)) :=
          rotr28_rotateLeft x hshift hle
      _ = x.rotateLeft (encRotation (15 - (i + 1))) := by rw [hback]

/-- R171: the key step of round 0 puts the schedule at its first rotation, whatever it held. -/
theorem keyStep_zero (T : DesTables) (key : Block) (dir : Dir) (p : Datapath) :
    keyStep T key dir 0 p = scheduleDatapath T key (keyRotation dir 0) (p.halfL, p.halfR) := by
  simp only [keyStep, if_true, rotateHalf_zero, scheduleDatapath, rotatedSubkey]

/-- R171: each later key step moves the schedule on by one round. -/
theorem keyStep_succ (T : DesTables) (key : Block) (dir : Dir) (h : Word × Word) {i : Nat}
    (hi : i < 15) :
    keyStep T key dir (i + 1) (scheduleDatapath T key (keyRotation dir i) h) =
      scheduleDatapath T key (keyRotation dir (i + 1)) h := by
  simp only [keyStep, scheduleDatapath, Nat.succ_ne_zero, if_false, rotateHalf_succ dir _ hi,
    rotatedSubkey]

/-- R176: the key steps of rounds 0 to n, in order, in closed form. -/
theorem foldl_keyStep (T : DesTables) (key : Block) (dir : Dir) (p : Datapath) {n : Nat}
    (hn : n ≤ 15) :
    (List.range (n + 1)).foldl (fun q i => keyStep T key dir i q) p =
      scheduleDatapath T key (keyRotation dir n) (p.halfL, p.halfR) := by
  induction n with
  | zero => exact keyStep_zero T key dir p
  | succ n ih =>
    rw [List.range_succ, List.foldl_append, ih (by omega), List.foldl_cons, List.foldl_nil,
      keyStep_succ T key dir _ (by omega)]

theorem subkeyAfter_eq (T : DesTables) (key : Block) (dir : Dir) (p : Datapath) {n : Nat}
    (hn : n ≤ 15) : subkeyAfter T key dir n p = rotatedSubkey T key (keyRotation dir n) := by
  rw [subkeyAfter, foldl_keyStep T key dir p hn, scheduleDatapath]

end Sys2Proof.Machine
end

section
/-!
PROOFS. The block procedure over any tables (43_feistel.md R145, R146, R149, R150): a Feistel network on
the two halves, which the reversed subkeys undo.
-/
namespace Sys2Proof.Machine

/-! ### The block procedure in closed form (R150) -/

/-- One Feistel round on the halves, with the subkey k (R143). -/
def roundHalves (T : DesTables) (h : Word × Word) (k : SubKey) : Word × Word :=
  (h.2, h.1 ^^^ roundF T h.2 k)

/-- The subkeys of rounds 0 to n of one direction, in the order of their use. -/
def roundKeys (T : DesTables) (key : Block) (dir : Dir) (n : Nat) : List SubKey :=
  ((List.range (n + 1)).map (keyRotation dir)).map (rotatedSubkey T key)

/-- The halves that sixteen rounds leave of the block x, before the final swap (R150). -/
def blockHalves (T : DesTables) (key : Block) (dir : Dir) (x : Block) : Word × Word :=
  (roundKeys T key dir 15).foldl (roundHalves T) (hi32 (ipf T x), lo32 (ipf T x))

/-- R143: ROUND on the datapath is the round on its halves. -/
theorem feistelRound_scheduleDatapath (T : DesTables) (key : Block) (n : Nat) (h : Word × Word) :
    feistelRound T (scheduleDatapath T key n h) =
      scheduleDatapath T key n (roundHalves T h (rotatedSubkey T key n)) := rfl

/-- R150: rounds 0 to n of the loop, in closed form. -/
theorem foldl_loopTurn (T : DesTables) (key : Block) (dir : Dir) (p : Datapath) {n : Nat}
    (hn : n ≤ 15) :
    (List.range (n + 1)).foldl (loopTurn T key dir) p =
      scheduleDatapath T key (keyRotation dir n)
        ((roundKeys T key dir n).foldl (roundHalves T) (p.halfL, p.halfR)) := by
  induction n with
  | zero =>
    show feistelRound T (keyStep T key dir 0 p) = _
    rw [keyStep_zero, feistelRound_scheduleDatapath]
    rfl
  | succ n ih =>
    rw [List.range_succ, List.foldl_append, ih (by omega), List.foldl_cons, List.foldl_nil, loopTurn,
      keyStep_succ T key dir _ (by omega), feistelRound_scheduleDatapath, roundKeys, roundKeys,
      List.range_succ (n := n + 1), List.map_append, List.map_append, List.foldl_append]
    rfl

/-- R150: what the block procedure leaves in the datapath registers, whatever they held. -/
theorem blockDatapath_eq (T : DesTables) (key : Block) (dir : Dir) (x : Block) (p : Datapath) :
    blockDatapath T key dir x p =
      scheduleDatapath T key (keyRotation dir 15) (blockHalves T key dir x).swap := by
  rw [blockDatapath, foldl_loopTurn T key dir _ (Nat.le_refl 15)]
  rfl

/-- R150: the value the block procedure returns. -/
theorem blockValue_eq (T : DesTables) (key : Block) (dir : Dir) (x : Block) (p : Datapath) :
    blockValue T key dir x p =
      fpf T ((blockHalves T key dir x).2 ++ (blockHalves T key dir x).1) := by
  rw [blockValue, blockDatapath_eq]
  rfl

/-- Settles O49: the closed form names no earlier datapath register (R145, R146). -/
theorem blockValueIgnoresOldDatapath : Obligations.BlockValueIgnoresOldDatapath := by
  intro T key x p
  simp only [encryptBlock, decryptBlock, blockValue_eq, and_self]

/-! ### Decryption inverts encryption (R149) -/

/-- A round on the swapped outcome of the same round gives the swapped input back. -/
theorem roundHalves_swap_roundHalves (T : DesTables) (h : Word × Word) (k : SubKey) :
    roundHalves T (roundHalves T h k).swap k = h.swap := by
  obtain ⟨l, r⟩ := h
  simp [roundHalves]

/-- The Feistel network with the subkeys in reverse order undoes itself, up to the swap. -/
theorem foldl_roundHalves_reverse (T : DesTables) (ks : List SubKey) (h : Word × Word) :
    ks.reverse.foldl (roundHalves T) (ks.foldl (roundHalves T) h).swap = h.swap := by
  induction ks generalizing h with
  | nil => rfl
  | cons k ks ih =>
    rw [List.reverse_cons, List.foldl_append, List.foldl_cons, List.foldl_nil, List.foldl_cons, ih]
    exact roundHalves_swap_roundHalves T h k

/-- R176: each direction uses the other's subkeys in reverse order. -/
theorem roundKeys_reverse (T : DesTables) (key : Block) :
    roundKeys T key .dec 15 = (roundKeys T key .enc 15).reverse := by
  have hrot : (List.range 16).map (keyRotation .dec) =
      ((List.range 16).map (keyRotation .enc)).reverse := by decide
  rw [roundKeys, hrot, List.map_reverse, roundKeys]

/-- R150: the halves that the final permutation joined are the halves that the initial permutation of
the result splits. -/
theorem ipf_blockValue {T : DesTables} (hT : T.Valid) (key : Block) (dir : Dir) (x : Block)
    (p : Datapath) :
    ipf T (blockValue T key dir x p) = (blockHalves T key dir x).2 ++ (blockHalves T key dir x).1 := by
  rw [blockValue_eq, ipf_fpf hT]

/-- R149: the block procedure with the subkeys in reverse order gives the block back. -/
theorem blockValue_blockValue {T : DesTables} (hT : T.Valid) (key : Block) {dir dir' : Dir}
    (hkeys : roundKeys T key dir' 15 = (roundKeys T key dir 15).reverse) (x : Block)
    (p q : Datapath) : blockValue T key dir' (blockValue T key dir x p) q = x := by
  have hback : blockHalves T key dir' (blockValue T key dir x p) =
      (lo32 (ipf T x), hi32 (ipf T x)) :=
    calc blockHalves T key dir' (blockValue T key dir x p)
        = (roundKeys T key dir 15).reverse.foldl (roundHalves T) (blockHalves T key dir x).swap := by
          rw [blockHalves, ipf_blockValue hT, hi32_append, lo32_append, hkeys]
          rfl
      _ = (lo32 (ipf T x), hi32 (ipf T x)) := foldl_roundHalves_reverse T _ _
  rw [blockValue_eq, hback, hi32_append_lo32, fpf_ipf hT]

/-- Settles O48: the Feistel network run backwards, in both orders (R149). -/
theorem blockDecryptionInvertsEncryption : Obligations.BlockDecryptionInvertsEncryption := by
  intro T hT key x
  have hdec := roundKeys_reverse T key
  have henc : roundKeys T key .enc 15 = (roundKeys T key .dec 15).reverse := by
    rw [hdec, List.reverse_reverse]
  exact ⟨blockValue_blockValue hT key hdec x _ _, blockValue_blockValue hT key henc x _ _⟩

end Sys2Proof.Machine
end

section
/-!
PROOFS. The commands of the Feistel datapath (43_feistel.md R141 to R148).
-/
namespace Sys2Proof.Machine

/-! ### The single-step commands (R141 to R144) -/

/-- The common end of the commands that write the halves alone. -/
theorem State.setHalves_complete (s : State) (l r : Word) :
    (s.setDatapath { s.datapath with halfL := l, halfR := r }).complete =
      { s with halfL := l, halfR := r, pending := none, done := true } := rfl

/-- The common end of the commands that write the datapath registers and DOUT. -/
theorem State.setDatapath_setDout_complete (s : State) (p : Datapath) (v : Block) :
    ((s.setDatapath p).setDout v).complete =
      { s with
        halfL := p.halfL, halfR := p.halfR, ksC := p.ksC, ksD := p.ksD, sk := p.sk
        dout := v, pending := none, done := true } := rfl

theorem exec_ffunc (s : State) :
    exec .ffunc s =
      .next { s with
        dout := zext64 (roundF tables s.din32 s.sk), pending := none, done := true } :=
  congrArg Host.Outcome.next (s.setDout_complete _)

theorem exec_blkLoad (s : State) :
    exec .blkLoad s =
      .next { s with
        halfL := hi32 (ipf tables s.din), halfR := lo32 (ipf tables s.din)
        pending := none, done := true } :=
  congrArg Host.Outcome.next (s.setHalves_complete _ _)

theorem exec_round (s : State) :
    exec .round s =
      .next { s with
        halfL := s.halfR, halfR := s.halfL ^^^ roundF tables s.halfR s.sk
        pending := none, done := true } :=
  congrArg Host.Outcome.next (s.setHalves_complete _ _)

theorem exec_blkStore (s : State) :
    exec .blkStore s =
      .next { s with
        halfL := s.halfR, halfR := s.halfL, dout := fpf tables (s.halfR ++ s.halfL)
        pending := none, done := true } :=
  congrArg Host.Outcome.next (s.setDatapath_setDout_complete (swapHalves s.datapath) _)

/-- Settles O32: ROUND's assignment of the two halves (R143). -/
theorem roundSwapsAndXors : Obligations.RoundSwapsAndXors := exec_round

/-- Settles O31: `pos_permute` at IP, on the pair of halves (R142). -/
theorem blkLoadSplitsPermutedBlock : Obligations.BlkLoadSplitsPermutedBlock := by
  intro s
  refine ⟨_, _, fun k h1 hk => ?_, exec_blkLoad s⟩
  rw [hi32_append_lo32]
  exact pos_permute fipsIp s.din rfl h1 hk

/-- Settles O33: `pos_permute` at FP, of the swapped pair (R144). -/
theorem blkStoreSwapsAndPermutes : Obligations.BlkStoreSwapsAndPermutes := fun s =>
  ⟨_, fun _ => pos_permute fipsFp (s.halfR ++ s.halfL) rfl, exec_blkStore s⟩

/-! ### FFUNC, stage by stage (R140, R141) -/

theorem pos_xor {w : Nat} (u v : BitVec w) (k : Nat) : pos (u ^^^ v) k = (pos u k ^^ pos v k) :=
  BitVec.getLsbD_xor

/-- R140: the expansion of the low word of a block, position by position. -/
theorem pos_ef_din32 (s : State) {k : Nat} (h1 : 1 ≤ k) (hk : k ≤ 48) :
    pos (ef tables s.din32) k = pos s.din (32 + fipsE.getD (k - 1) 0) := by
  obtain ⟨hlo, hhi⟩ := getD_mem_range fipsE_range rfl h1 hk
  calc pos (ef tables s.din32) k
      = pos s.din32 (fipsE.getD (k - 1) 0) := pos_permute fipsE s.din32 rfl h1 hk
    _ = pos s.din (32 + fipsE.getD (k - 1) 0) := pos_extractLsb'_zero s.din (by decide) hlo hhi

/-- R118: an S-box lookup as a number, for tables of 4-bit entries. -/
theorem toNat_sboxLookup {T : DesTables} (hT : ∀ S ∈ T.sbox, ∀ r ∈ S, ∀ v ∈ r, v ≤ 15) (n : Nat)
    (x : BitVec 6) :
    (sboxLookup T n x).toNat =
      ((T.sbox.getD n []).getD (x.toNat / 32 % 2 * 2 + x.toNat % 2) []).getD (x.toNat / 2 % 16) 0 := by
  have hentry := sbox_getD_le hT n (sboxRow x) (sboxCol x)
  rw [sboxLookup, BitVec.toNat_ofNat, Nat.mod_eq_of_lt (by omega), sboxRow_eq, sboxCol_eq]

/-- The chunk of X from bit m up, in the numbers that R118 reads of it: its two outer bits and its
four inner ones. -/
theorem toNat_chunk (X : SubKey) (m : Nat) :
    (X.extractLsb' m 6).toNat / 32 % 2 = X.toNat / 2 ^ (m + 5) % 2
    ∧ (X.extractLsb' m 6).toNat % 2 = X.toNat / 2 ^ m % 2
    ∧ (X.extractLsb' m 6).toNat / 2 % 16 = X.toNat / 2 ^ (m + 1) % 16 := by
  rw [BitVec.extractLsb'_toNat, Nat.shiftRight_eq_div_pow, pow_add, pow_add,
    ← Nat.div_div_eq_div_mul, ← Nat.div_div_eq_div_mul]
  omega

/-- R140: the j-th digit from the left of the substituted word, in base 16. -/
theorem digit_substitute (T : DesTables) (X : SubKey) {j : Nat} (hj : j < 8) :
    (substitute T X).toNat / 16 ^ (7 - j) % 16 = (sboxChunk T X j).toNat := by
  rw [← substitute_extract T X hj, BitVec.extractLsb'_toNat, Nat.shiftRight_eq_div_pow, pow_mul]
  rfl

/-- Settles O30: X, Y and v are the stages of R140 on the operands of FFUNC. -/
theorem ffuncAppliesRoundFunction : Obligations.FfuncAppliesRoundFunction := by
  intro s
  refine ⟨ef tables s.din32 ^^^ s.sk, substitute tables (ef tables s.din32 ^^^ s.sk), _,
    fun k h1 hk => ?expand, fun j hj => ?substitute, fun k _ hk => pos_zext64_high rfl _ hk,
    fun k h1 hk => pos_zext64_permute (m := 32) rfl rfl _ h1 hk, exec_ffunc s⟩
  case expand => rw [pos_xor, pos_ef_din32 s h1 hk]
  case substitute =>
    obtain ⟨hhigh, hlow, hinner⟩ := toNat_chunk (ef tables s.din32 ^^^ s.sk) (42 - 6 * j)
    rw [digit_substitute _ _ hj, sboxChunk, toNat_sboxLookup (T := tables) fipsTables_sbox_range,
      hhigh, hlow, hinner, show 42 - 6 * j + 5 = 47 - 6 * j by omega,
      show 42 - 6 * j + 1 = 43 - 6 * j by omega]
    rfl

/-! ### The block commands (R147, R148) -/

/-- R111: the default tables meet the constraints (R112 to R119). -/
theorem tables_valid : tables.Valid :=
  ⟨by decide, by decide, by decide, by decide, by decide, by decide, by decide⟩

/-- The two halves of PC1f(KEY) make it up again (R171). -/
theorem keyHalfC_append_keyHalfD (T : DesTables) (key : Block) :
    keyHalfC T key ++ keyHalfD T key = pc1f T key := by
  rw [keyHalfC, keyHalfD,
    BitVec.extractLsb'_append_extractLsb'_eq_extractLsb' (start₁ := 0) (len₁ := 28) rfl]
  exact BitVec.extractLsb'_eq_self

/-- R147, R148: the end state of the block command of either direction, in closed form. -/
theorem exec_blockCommand (dir : Dir) (s : State) :
    exec (blockCommand dir) s =
      .next { s with
        dout := blockValue tables s.key dir s.din zeroDatapath
        halfL := (blockHalves tables s.key dir s.din).2
        halfR := (blockHalves tables s.key dir s.din).1
        ksC := (keyHalfC tables s.key).rotateLeft (keyRotation dir 15)
        ksD := (keyHalfD tables s.key).rotateLeft (keyRotation dir 15)
        sk := rotatedSubkey tables s.key (keyRotation dir 15)
        pending := none
        done := true } := by
  have hexec : exec (blockCommand dir) s =
      .next ((s.runBlock tables dir s.din).setDout (s.blockResult tables dir s.din)).complete := by
    cases dir <;> rfl
  rw [hexec, State.runBlock, State.blockResult, State.setDatapath_setDout_complete, blockDatapath_eq,
    blockValue_eq, blockValue_eq]
  rfl

/-- Settles O34: after encryption round 15 the key schedule has made a full turn (R147). -/
theorem encBlockFinalState : Obligations.EncBlockFinalState := by
  intro s
  refine ⟨_, _, _, _, _, rfl, (ipf_blockValue tables_valid s.key .enc s.din zeroDatapath).symm,
    keyHalfC_append_keyHalfD tables s.key, ?_⟩
  have hturn : ∀ x : KeyHalf, x.rotateLeft (keyRotation .enc 15) = x := rotateLeft_full_turn
  rw [subkeyAfter_eq _ _ _ _ (Nat.le_refl 15)]
  have hexec := exec_blockCommand .enc s
  rw [hturn, hturn] at hexec
  exact hexec

/-- Settles O35: after decryption round 15 the key schedule stands where encryption round 0 leaves
it (R148). -/
theorem decBlockFinalState : Obligations.DecBlockFinalState := by
  intro s
  refine ⟨_, _, _, _, _, rfl, (ipf_blockValue tables_valid s.key .dec s.din zeroDatapath).symm,
    keyHalfC_append_keyHalfD tables s.key, ?_⟩
  rw [subkeyAfter_eq _ _ _ _ (Nat.zero_le 15)]
  exact exec_blockCommand .dec s

end Sys2Proof.Machine
end

section
/-!
PROOFS. The key schedule: its commands (44_key_schedule.md R173, R174), its constants (R170), and the
laws R172, R175, R176 and R177.
-/
namespace Sys2Proof.Machine

/-! ### The rotations and the constants (R170, R171, R175) -/

/-- R171: an encryption key step rotates a half to the left, in every round. -/
theorem rotateHalf_enc (i : Nat) (x : KeyHalf) :
    rotateHalf .enc i x = x.rotateLeft (shiftAmount i) :=
  rotl28_eq_rotateLeft x (shiftAmount_le_two i)

/-- R171: a decryption key step rotates a half to the right, but leaves a freshly loaded one. -/
theorem rotateHalf_dec (i : Nat) (x : KeyHalf) :
    rotateHalf .dec i x = if i = 0 then x else x.rotateRight (shiftAmount i) := by
  rw [rotateHalf, rotr28_eq_rotateRight x (shiftAmount_le_two i)]

/-- R175, over the finitely many rounds. -/
theorem shiftAmount_symmetric : ∀ i < 16, 1 ≤ i → shiftAmount i = shiftAmount (16 - i) := by decide

/-- Settles O46: the tables are checked in `tables_valid`, the schedule entry by entry. -/
theorem defaultTablesAreValid : Obligations.DefaultTablesAreValid :=
  ⟨tables_valid, by decide, by decide, fun i h1 h15 => shiftAmount_symmetric i (by omega) h1⟩

/-- Settles O50: both subkeys are read at one rotation of the halves of PC1f(KEY) (R176). -/
theorem keyScheduleIsSymmetric : Obligations.KeyScheduleIsSymmetric := by
  intro T key p q i hi
  have hrot : keyRotation .dec i = keyRotation .enc (15 - i) := rfl
  rw [subkeyAfter_eq T key .dec p hi, subkeyAfter_eq T key .enc q (Nat.sub_le 15 i), hrot]

/-! ### The parity positions (R172) -/

/-- R9: a permutation reads no position but its table's entries. -/
theorem permute_congr {w m : Nat} {T : List Nat} {u v : BitVec w}
    (h : ∀ k ∈ T, pos u k = pos v k) : permute T u m = permute T v m := by
  rw [permute, permute, List.map_congr_left h]

/-- R116, R172: PC1 drops the positions that are multiples of 8. -/
theorem fipsPc1_entries : ∀ k ∈ fipsPc1, 1 ≤ k ∧ k ≤ 64 ∧ k % 8 ≠ 0 := by decide

/-- R171: a key step reads no more of the key than PC1f of it. -/
theorem keyStep_congr {T : DesTables} {key key' : Block} (h : pc1f T key = pc1f T key') (dir : Dir)
    (i : Nat) (p : Datapath) : keyStep T key dir i p = keyStep T key' dir i p := by
  simp only [keyStep, keyHalfC, keyHalfD, h]

/-- Settles O51: no entry of PC1 is a parity position (R172). -/
theorem parityPositionsDoNotMatter : Obligations.ParityPositionsDoNotMatter := by
  intro key key' hagree dir i p
  have hpc1 : pc1f tables key = pc1f tables key' := permute_congr fun k hk => by
    obtain ⟨hlo, hhi, hparity⟩ := fipsPc1_entries k hk
    exact hagree k hlo hhi hparity
  exact keyStep_congr hpc1 dir i p

/-! ### The key-step commands (R173, R174) -/

/-- R82: the operand field holds the index of every round. -/
theorem toNat_roundOperand {i : Nat} (hi : i < 16) : (BitVec.ofNat 8 i).toNat = i := by
  rw [BitVec.toNat_ofNat, Nat.mod_eq_of_lt (by omega)]

theorem keyStepCommand_wellFormed (dir : Dir) {i : Nat} (hi : i < 16) :
    (keyStepCommand dir i).wellFormed = true := by
  cases dir <;>
    simp only [keyStepCommand, Instr.wellFormed, toNat_roundOperand hi, hi, decide_true]

/-- R173, R174: the key-step command of either direction is R171's key step on the datapath registers,
for the operands that Check passes. -/
theorem exec_keyStepCommand (dir : Dir) {i : Nat} (hi : i < 16) (s : State) :
    exec (keyStepCommand dir i) s =
      .next (s.setDatapath (keyStep tables s.key dir i s.datapath)).complete := by
  have hw := keyStepCommand_wellFormed dir hi
  have hexec : exec (keyStepCommand dir i) s =
      .next (s.setDatapath
        (keyStep tables s.key dir (BitVec.ofNat 8 i).toNat s.datapath)).complete := by
    cases dir <;> exact if_pos hw
  rw [hexec, toNat_roundOperand hi]

/-- The common end of the commands that write the key schedule's registers alone. -/
theorem State.setSchedule_complete (s : State) (c d : KeyHalf) (k : SubKey) :
    (s.setDatapath { s.datapath with ksC := c, ksD := d, sk := k }).complete =
      { s with ksC := c, ksD := d, sk := k, pending := none, done := true } := rfl

/-- R171, R173, R174: the end state of a key-step command, over the halves that it rotates. -/
theorem exec_keyStepCommand_endState (dir : Dir) {i : Nat} (hi : i < 16) (s : State) {c d : KeyHalf}
    (hc : c = rotateHalf dir i (if i = 0 then keyHalfC tables s.key else s.ksC))
    (hd : d = rotateHalf dir i (if i = 0 then keyHalfD tables s.key else s.ksD)) :
    exec (keyStepCommand dir i) s =
      .next { s with
        ksC := c, ksD := d, sk := pc2f tables (c ++ d), pending := none, done := true } := by
  subst hc hd
  rw [exec_keyStepCommand dir hi, ← State.setSchedule_complete]
  rfl

/-- Settles O36: the key step of the encryption direction (R171, R173). -/
theorem ksEncStepRotatesLeft : Obligations.KsEncStepRotatesLeft := by
  intro s i hi
  have hexec := exec_keyStepCommand_endState .enc hi s (rotateHalf_enc _ _).symm
    (rotateHalf_enc _ _).symm
  rw [keyStepCommand, BitVec.ofNat_toNat, BitVec.setWidth_eq] at hexec
  exact ⟨_, _, rfl, rfl, hexec⟩

/-- The decryption step's two cases in one: round 0 loads the half, a later round rotates it. -/
theorem rotateHalf_dec_loaded (i : Nat) (fresh held : KeyHalf) :
    rotateHalf .dec i (if i = 0 then fresh else held) =
      if i = 0 then fresh else held.rotateRight (shiftAmount i) := by
  rw [rotateHalf_dec]
  split <;> rfl

/-- Settles O37: the key step of the decryption direction (R171, R174). -/
theorem ksDecStepRotatesRight : Obligations.KsDecStepRotatesRight := by
  intro s i hi
  have hexec := exec_keyStepCommand_endState .dec hi s (rotateHalf_dec_loaded _ _ _).symm
    (rotateHalf_dec_loaded _ _ _).symm
  rw [keyStepCommand, BitVec.ofNat_toNat, BitVec.setWidth_eq] at hexec
  exact ⟨_, _, rfl, rfl, hexec⟩

/-! ### The stepwise sequence (R177)

Every command of the sequence but the last is one step on the datapath registers and then the common
completion, so its first commands leave `(s.setDatapath p).complete`, with p what R150's procedure
holds at that point. -/

theorem execAll_cons_of_next {i : Instr} {s t : State} (h : exec i s = .next t) (rest : List Instr) :
    execAll (i :: rest) s = execAll rest t := by
  rw [execAll, h]

theorem execAll_append_of_next {A : List Instr} {s t : State} (h : execAll A s = .next t)
    (B : List Instr) : execAll (A ++ B) s = execAll B t := by
  rw [execAll_append, h]

/-- R150's loop for the rounds `is`, command by command. -/
theorem execAll_loopTurns (dir : Dir) (s : State) (p : Datapath) (is : List Nat)
    (his : ∀ i ∈ is, i < 16) :
    execAll (is.flatMap fun i => [keyStepCommand dir i, .round]) (s.setDatapath p).complete =
      .next (s.setDatapath (is.foldl (loopTurn tables s.key dir) p)).complete := by
  induction is generalizing p with
  | nil => rfl
  | cons i is ih =>
    obtain ⟨hi, hrest⟩ := List.forall_mem_cons.1 his
    have hstep : exec (keyStepCommand dir i) (s.setDatapath p).complete =
        .next (s.setDatapath (keyStep tables s.key dir i p)).complete :=
      exec_keyStepCommand dir hi _
    have hround : exec .round (s.setDatapath (keyStep tables s.key dir i p)).complete =
        .next (s.setDatapath (loopTurn tables s.key dir p i)).complete := rfl
    rw [List.flatMap_cons, List.cons_append, execAll_cons_of_next hstep, List.cons_append,
      execAll_cons_of_next hround, List.nil_append, ih _ hrest, List.foldl_cons]

/-- R147, R148: the block command of either direction is R150's procedure. -/
theorem exec_blockCommand_eq_runBlock (dir : Dir) (s : State) :
    exec (blockCommand dir) s =
      .next ((s.runBlock tables dir s.din).setDout (s.blockResult tables dir s.din)).complete := by
  cases dir <;> rfl

/-- Settles O52: R150's procedure is the stepwise sequence (R177). -/
theorem stepwiseSequenceEqualsBlockCommand : Obligations.StepwiseSequenceEqualsBlockCommand := by
  intro dir s
  have hload : exec .blkLoad s =
      .next (s.setDatapath (loadHalves tables s.din s.datapath)).complete := rfl
  have hloop := execAll_loopTurns dir s (loadHalves tables s.din s.datapath) (List.range 16)
    fun _ => List.mem_range.1
  have hstore : exec .blkStore
        (s.setDatapath ((List.range 16).foldl (loopTurn tables s.key dir)
          (loadHalves tables s.din s.datapath))).complete =
      .next ((s.runBlock tables dir s.din).setDout (s.blockResult tables dir s.din)).complete := rfl
  rw [stepwiseCommands, execAll_cons_of_next hload, execAll_append_of_next hloop,
    execAll_cons_of_next hstore, execAll, exec_blockCommand_eq_runBlock]

end Sys2Proof.Machine
end

section
/-!
PROOFS. The chaining, IV and padding commands (45_chaining_padding.md R190 to R197).
-/
namespace Sys2Proof.Machine

/-! ### The chaining commands, from the block commands (R190, R191) -/

/-- R190: CBC_ENC is ENC_BLOCK on `DIN xor CHAIN`, with DIN kept and the result put into CHAIN too. -/
theorem exec_cbcEnc_of_encBlock {s t : State}
    (h : exec .encBlock { s with din := s.din ^^^ s.chain } = .next t) :
    exec .cbcEnc s = .next { t with din := s.din, chain := t.dout } := by
  have hblock := (exec_blockCommand_eq_runBlock .enc { s with din := s.din ^^^ s.chain }).symm.trans h
  cases hblock
  rfl

/-- R191: CBC_DEC is DEC_BLOCK, with the old CHAIN added to the result and DIN put into CHAIN. -/
theorem exec_cbcDec_of_decBlock {s t : State} (h : exec .decBlock s = .next t) :
    exec .cbcDec s = .next { t with dout := t.dout ^^^ s.chain, chain := s.din } := by
  have hblock := (exec_blockCommand_eq_runBlock .dec s).symm.trans h
  cases hblock
  rfl

/-- Settles O38: the end state of ENC_BLOCK on `DIN xor CHAIN`, carried over to CBC_ENC (R190). -/
theorem cbcEncChains : Obligations.CbcEncChains := by
  intro s
  obtain ⟨y, l, r, c, d, hy, hhalves, hkey, hblock⟩ :=
    encBlockFinalState { s with din := s.din ^^^ s.chain }
  have hchained := exec_cbcEnc_of_encBlock hblock
  exact ⟨y, l, r, c, d, hy, hhalves, hkey, hchained, _, hblock, rfl, hchained⟩

/-- Settles O39: the end state of DEC_BLOCK, carried over to CBC_DEC (R191). -/
theorem cbcDecChains : Obligations.CbcDecChains := by
  intro s
  obtain ⟨y, l, r, c, d, hy, hhalves, hkey, hblock⟩ := decBlockFinalState s
  have hchained := exec_cbcDec_of_decBlock hblock
  exact ⟨y, l, r, c, d, hy, hhalves, hkey, hchained, _, hblock, rfl, hchained⟩

/-! ### IV_GEN (R192) -/

theorem exec_ivGen (s : State) :
    exec .ivGen s =
      .next { s with
        chain := s.entropyDraw, dout := s.entropyDraw, entropyDraws := s.entropyDraws + 1
        pending := none, done := true } := rfl

/-- Settles O40: the one draw of IV_GEN (R192). -/
theorem ivGenDrawsOnce : Obligations.IvGenDrawsOnce := fun s => ⟨_, rfl, exec_ivGen s⟩

/-! ### PAD (R193, R194) -/

/-- R193: PAD n, for the operands that Check passes. -/
theorem exec_pad (s : State) {n : Byte} (hn : n.toNat < 8) :
    exec (.pad n) s =
      .next { s with dout := padBlock s.din n.toNat, pending := none, done := true } :=
  (if_pos (decide_eq_true hn)).trans (congrArg Host.Outcome.next (s.setDout_complete _))

/-- R194: a byte of a padded block as a number. -/
theorem toNat_byteOf_padBlock (x : Block) (n : Nat) {k : Nat} (hk : k < 8) :
    (byteOf (padBlock x n) k).toNat = if k < n then (byteOf x k).toNat else 8 - n := by
  have hpad : 8 - n < 2 ^ 8 := by omega
  rw [byteOf_padBlock x n hk, padByte, apply_ite BitVec.toNat, BitVec.toNat_ofNat,
    Nat.mod_eq_of_lt hpad]

/-- Settles O41: the bytes of `Pad(DIN, n)` (R193, R194). -/
theorem padFillsBytes : Obligations.PadFillsBytes := fun s _ hn =>
  ⟨_, fun _ hk => toNat_byteOf_padBlock s.din _ hk, exec_pad s hn⟩

/-! ### UNPAD (R195, R196) -/

theorem exec_unpad (s : State) :
    exec .unpad s =
      .next { s with dout := BitVec.ofNat 64 (padCount s.din), pending := none, done := true } :=
  congrArg Host.Outcome.next (s.setDout_complete _)

/-- R195: the last byte of a block that ends in padding names its length. -/
theorem last_byte_of_endsInPadding {x : Block} {v : Nat} (h : endsInPadding x v = true) :
    (byteOf x 7).toNat = v := by
  obtain ⟨hpos, -, hbytes⟩ := (endsInPadding_iff x v).1 h
  exact hbytes 7 (by omega) (by decide)

/-- R195: a nonzero count is the one length of padding that the block ends in. -/
theorem padCount_eq_iff (x : Block) {v : Nat} (hv : v ≠ 0) :
    padCount x = v ↔ endsInPadding x v = true := by
  constructor
  · intro h
    by_cases hlast : endsInPadding x (byteOf x 7).toNat = true
    · rw [padCount, if_pos hlast] at h
      rwa [h] at hlast
    · rw [padCount, if_neg hlast] at h
      exact absurd h.symm hv
  · intro h
    rw [padCount, last_byte_of_endsInPadding h, if_pos h]

/-- Settles O42: the count is `PadCount(DIN)` (R195, R196). -/
theorem unpadCountsPadding : Obligations.UnpadCountsPadding := by
  intro s
  have hends (hc : padCount s.din ≠ 0) :=
    (endsInPadding_iff s.din _).1 ((padCount_eq_iff s.din hc).1 rfl)
  refine ⟨padCount s.din, ?bound, fun hc => ?padded, fun hc v h1 h8 => ?unpadded, exec_unpad s⟩
  case bound =>
    by_cases hc : padCount s.din = 0
    · omega
    · obtain ⟨-, hle, -⟩ := hends hc
      exact hle
  case padded =>
    obtain ⟨-, -, hbytes⟩ := hends hc
    exact hbytes
  case unpadded =>
    have hv : v ≠ 0 := by omega
    by_contra hno
    push Not at hno
    have hcount : padCount s.din = v :=
      (padCount_eq_iff s.din hv).2 ((endsInPadding_iff s.din v).2 ⟨h1, h8, hno⟩)
    exact hv (hcount.symm.trans hc)

/-! ### Padding is counted back (R197) -/

/-- R197: the padding that `Pad` adds is what `PadCount` counts. -/
theorem padCount_padBlock (x : Block) {n : Nat} (hn : n ≤ 7) : padCount (padBlock x n) = 8 - n := by
  have hpos : 8 - n ≠ 0 := by omega
  refine (padCount_eq_iff _ hpos).2
    ((endsInPadding_iff _ _).2 ⟨by omega, by omega, fun k hlo hk => ?_⟩)
  rw [toNat_byteOf_padBlock x n hk, if_neg (by omega)]

/-- R194: padding keeps the real data bytes. -/
theorem take_bytesOf_padBlock (x : Block) {n : Nat} (hn : n ≤ 8) :
    (bytesOf (padBlock x n)).take n = (bytesOf x).take n := by
  simp only [bytesOf, ← List.map_take, List.take_range, Nat.min_eq_left hn]
  refine List.map_congr_left fun k hk => ?_
  have hkn : k < n := List.mem_range.1 hk
  rw [byteOf_padBlock x n (by omega), padByte, if_pos hkn]

/-- Settles O53: `padCount_padBlock`, and the bytes that the stripping leaves (R197). -/
theorem padCountOfPad : Obligations.PadCountOfPad := by
  intro x n hn
  have hcount := padCount_padBlock x hn
  refine ⟨hcount, ?_⟩
  rw [hcount, show 8 - (8 - n) = n by omega]
  exact take_bytesOf_padBlock x (by omega)

end Sys2Proof.Machine
end

section
/-!
PROOFS. The modular exponentiation command (46_modexp.md R220, R221).
-/
namespace Sys2Proof.Machine

/-- R220: ModExp is the exact power modulo m, for m of 1 or more: "The result is below m, so it fits
32 bits". -/
theorem toNat_modExp (b e : Word) {m : Word} (hm : m ≠ 0#32) :
    (modExp b e m).toNat = b.toNat ^ e.toNat % m.toNat := by
  have hpos : 0 < m.toNat := Nat.pos_of_ne_zero fun h => hm (BitVec.eq_of_toNat_eq h)
  have hfits : b.toNat ^ e.toNat % m.toNat < 2 ^ 32 := (Nat.mod_lt _ hpos).trans m.isLt
  rw [modExp, modPow_eq _ _ _ _ e.isLt, BitVec.toNat_ofNat, Nat.mod_eq_of_lt hfits]

theorem State.setRsaRes_complete (s : State) (v : Word) :
    (s.setRsaRes v).complete = { s with rsaRes := v, pending := none, done := true } := rfl

/-- R221: MODEXP, for the moduli that Check passes. -/
theorem exec_modexp {s : State} (hm : s.rsaMod ≠ 0#32) :
    exec .modexp s =
      .next { s with
        rsaRes := modExp s.rsaBase s.rsaExp s.rsaMod, pending := none, done := true } :=
  (if_neg hm).trans (congrArg Host.Outcome.next (s.setRsaRes_complete _))

/-- Settles O43: the value of R220 in RSA_RES, and the rest of the state as R221 leaves it. -/
theorem modexpIsExact : Obligations.ModexpIsExact := fun s hm =>
  ⟨_, toNat_modExp s.rsaBase s.rsaExp hm, exec_modexp hm⟩

end Sys2Proof.Machine
end

section
/-!
PROOFS. The message functions for DES-like messages (47_message_level.md R230, R232, R233, R235,
R236).
-/
namespace Sys2Proof.Machine

/-! ### Bytes of a block (R11) -/

@[simp] theorem length_bytesOf (v : Block) : (bytesOf v).length = 8 := by
  rw [bytesOf, List.length_map, List.length_range]

/-- The block of a block's own bytes. -/
@[simp] theorem blockOfBytes_bytesOf (v : Block) : blockOfBytes (bytesOf v) = v := by
  refine eq_of_byteOf fun k hk => ?_
  rw [blockOfBytes, byteOf_blockOf _ hk, List.getD_eq_getElem _ _ (by simpa using hk)]
  simp [bytesOf]

/-- The bytes of the block made of 8 bytes. -/
theorem bytesOf_blockOfBytes {b : List Byte} (h : b.length = 8) : bytesOf (blockOfBytes b) = b := by
  refine List.ext_getElem (by simpa using h.symm) fun k hk hk' => ?_
  have hlt : k < 8 := by simpa using hk
  simp only [bytesOf, List.getElem_map, List.getElem_range, blockOfBytes, byteOf_blockOf _ hlt]
  exact List.getD_eq_getElem _ _ hk'

theorem length_flatMap_bytesOf (vs : List Block) : (vs.flatMap bytesOf).length = 8 * vs.length := by
  simp [List.length_flatMap, Nat.mul_comm]

/-! ### The segments of a message (R230) -/

/-- The first 8 bytes are the first segment. -/
theorem msgSegment_zero_append {a : List Byte} (ha : a.length = 8) (P : List Byte) :
    msgSegment (a ++ P) 0 = a := by
  rw [msgSegment, Nat.mul_zero, List.drop_zero, ← ha, List.take_left]

/-- Later segments are those of the rest. -/
theorem msgSegment_succ_append {a : List Byte} (ha : a.length = 8) (P : List Byte) (j : Nat) :
    msgSegment (a ++ P) (j + 1) = msgSegment P j := by
  rw [msgSegment, msgSegment, show 8 * (j + 1) = a.length + 8 * j by omega,
    List.drop_length_add_append]

theorem length_msgSegment_le (P : List Byte) (j : Nat) : (msgSegment P j).length ≤ 8 :=
  List.length_take_le _ _

theorem length_segments (P : List Byte) : (segments P).length = segmentCount P := by
  rw [segments, List.length_map, List.length_range]

theorem segments_append {a : List Byte} (ha : a.length = 8) (P : List Byte) :
    segments (a ++ P) = a :: segments P := by
  have hcount : segmentCount (a ++ P) = segmentCount P + 1 := by
    simp only [segmentCount, List.length_append, ha]
    omega
  rw [segments, hcount, List.range_succ_eq_map, List.map_cons, msgSegment_zero_append ha,
    List.map_map, segments]
  exact congrArg _ (List.map_congr_left fun j _ => msgSegment_succ_append ha P j)

theorem segments_ne_nil {P : List Byte} (h : P ≠ []) : segments P ≠ [] := by
  have hpos := List.length_pos_of_ne_nil h
  refine List.ne_nil_of_length_pos ?_
  rw [length_segments, segmentCount]
  omega

/-- A message of at most 8 bytes is one segment. -/
theorem segments_of_length_le {P : List Byte} (h0 : P ≠ []) (h8 : P.length ≤ 8) :
    segments P = [P] := by
  have hpos := List.length_pos_of_ne_nil h0
  have hcount : segmentCount P = 1 := by
    rw [segmentCount]
    omega
  rw [segments, hcount, List.range_one, List.map_singleton, msgSegment, Nat.mul_zero,
    List.drop_zero, List.take_of_length_le h8]

/-- The bytes of whole blocks have those blocks' bytes for segments. -/
theorem segments_flatMap_bytesOf (vs : List Block) :
    segments (vs.flatMap bytesOf) = vs.map bytesOf := by
  induction vs with
  | nil => rfl
  | cons v vs ih => rw [List.flatMap_cons, segments_append (length_bytesOf v), ih, List.map_cons]

/-- Induction over the segments of a message: the empty one, the last segment of at most 8 bytes,
and a full segment before more. -/
theorem segments_induction {motive : List Byte → Prop} (nil : motive [])
    (last : ∀ P, P ≠ [] → P.length ≤ 8 → motive P)
    (full : ∀ a P, a.length = 8 → P ≠ [] → motive P → motive (a ++ P)) (P : List Byte) :
    motive P := by
  induction hn : P.length using Nat.strong_induction_on generalizing P with
  | _ n ih =>
    by_cases h0 : P = []
    · exact h0 ▸ nil
    by_cases h8 : P.length ≤ 8
    · exact last P h0 h8
    · have hrest : (P.drop 8).length < n := by
        rw [List.length_drop]
        omega
      have hne : P.drop 8 ≠ [] := List.ne_nil_of_length_pos (by rw [List.length_drop]; omega)
      rw [← List.take_append_drop 8 P]
      exact full _ _ (List.length_take_of_le (by omega)) hne (ih _ hrest _ rfl)

/-! ### The block of a segment (R230) -/

/-- The block of a segment begins with the segment's bytes, padded or not. -/
theorem take_bytesOf_messageBlock {seg : List Byte} (h : seg.length ≤ 8) :
    (bytesOf (messageBlock seg)).take seg.length = seg := by
  by_cases h8 : seg.length = 8
  · rw [messageBlock, if_pos h8, bytesOf_blockOfBytes h8, List.take_length]
  · have hfill : (seg ++ List.replicate (8 - seg.length) 0#8).length = 8 := by
      rw [List.length_append, List.length_replicate]
      omega
    rw [messageBlock, if_neg h8, take_bytesOf_padBlock _ h, zeroFilled, bytesOf_blockOfBytes hfill,
      List.take_left]

/-- Segments of one length with the same block are the same. -/
theorem messageBlock_injective {seg seg' : List Byte} (hlen : seg.length = seg'.length)
    (h : seg.length ≤ 8) (heq : messageBlock seg = messageBlock seg') : seg = seg' := by
  rw [← take_bytesOf_messageBlock h, heq, hlen, take_bytesOf_messageBlock (hlen ▸ h)]

/-! ### The length of a ciphertext (R232) -/

theorem length_cbcEncryptBlocks (T : DesTables) (K prev : Block) (xs : List Block) :
    (cbcEncryptBlocks T K prev xs).length = xs.length := by
  induction xs generalizing prev with
  | nil => rfl
  | cons x xs ih => rw [cbcEncryptBlocks, List.length_cons, ih, List.length_cons]

theorem length_cipherBlocks (T : DesTables) (K : Block) (P : List Byte) (r : Block) :
    (cipherBlocks T K P r).length = segmentCount P := by
  rw [cipherBlocks, length_cbcEncryptBlocks, List.length_map, length_segments]

/-- An encrypted message is the bytes of the blocks C_0 = r, C_1, .. C_m (R230). -/
theorem msgEncrypt_eq_flatMap (T : DesTables) (K : Block) (P : List Byte) (r : Block) :
    msgEncrypt T K P r = (r :: cipherBlocks T K P r).flatMap bytesOf := rfl

theorem length_msgEncrypt (T : DesTables) (K : Block) (P : List Byte) (r : Block) :
    (msgEncrypt T K P r).length = 8 * (segmentCount P + 1) := by
  rw [msgEncrypt_eq_flatMap, length_flatMap_bytesOf, List.length_cons, length_cipherBlocks]

/-- Settles O54: one block for the IV and one for each segment (R232). -/
theorem ciphertextLength : Obligations.CiphertextLength :=
  fun T K r P => ⟨length_msgEncrypt T K P r, List.append_nil _⟩

/-! ### The round trip (R235) -/

/-- R233 undoes R230's chaining, block by block. -/
theorem cbcDecryptBlocks_cbcEncryptBlocks {T : DesTables} (hT : T.Valid) (K prev : Block)
    (xs : List Block) : cbcDecryptBlocks T K prev (cbcEncryptBlocks T K prev xs) = xs := by
  induction xs generalizing prev with
  | nil => rfl
  | cons x xs ih =>
    obtain ⟨hdec, -⟩ := blockDecryptionInvertsEncryption T hT K (x ^^^ prev)
    rw [cbcEncryptBlocks, cbcDecryptBlocks, ih, hdec, BitVec.xor_assoc, BitVec.xor_self,
      BitVec.xor_zero]

/-- Whole blocks, at least one, are no malformed ciphertext (R233). -/
theorem malformedCipher_flatMap_bytesOf (v : Block) (vs : List Block) :
    malformedCipher ((v :: vs).flatMap bytesOf) = false := by
  rw [malformedCipher, length_flatMap_bytesOf, List.length_cons, Bool.or_eq_false_iff,
    decide_eq_false_iff_not, decide_eq_false_iff_not]
  omega

/-- R233 on the bytes of whole blocks. -/
theorem msgDecrypt_flatMap_bytesOf (T : DesTables) (K iv : Block) (cs : List Block) :
    msgDecrypt T K ((iv :: cs).flatMap bytesOf) = .ok (stripLast (cbcDecryptBlocks T K iv cs)) := by
  have hiv : msgSegment ((iv :: cs).flatMap bytesOf) 0 = bytesOf iv :=
    msgSegment_zero_append (length_bytesOf iv) _
  have hblocks : (cs.map bytesOf).map blockOfBytes = cs := by
    simp [List.map_map, Function.comp_def]
  rw [msgDecrypt, malformedCipher_flatMap_bytesOf, if_neg Bool.false_ne_true, hiv,
    blockOfBytes_bytesOf, segments_flatMap_bytesOf, List.map_cons, List.tail_cons, hblocks]

/-- Decryption gives back the message's blocks, and strips the last one. -/
theorem msgDecrypt_msgEncrypt {T : DesTables} (hT : T.Valid) (K : Block) (P : List Byte)
    (r : Block) :
    msgDecrypt T K (msgEncrypt T K P r) = .ok (stripLast ((segments P).map messageBlock)) := by
  rw [msgEncrypt_eq_flatMap, msgDecrypt_flatMap_bytesOf, cipherBlocks,
    cbcDecryptBlocks_cbcEncryptBlocks hT]

/-- R195: at most the whole block is counted. -/
theorem padCount_le_eight (x : Block) : padCount x ≤ 8 := by
  by_cases hc : padCount x = 0
  · omega
  · obtain ⟨-, hle, -⟩ := (endsInPadding_iff x _).1 ((padCount_eq_iff x hc).1 rfl)
    exact hle

/-- R235's plaintext: P, but for a P of whole blocks, which loses what its last block seems to be
padded with. -/
def strippedMessage (P : List Byte) : List Byte :=
  if P ≠ [] ∧ P.length % 8 = 0
  then P.take (P.length - padCount (blockOfBytes (P.drop (P.length - 8))))
  else P

/-- Only the last block of several is stripped. -/
theorem stripLast_cons (x : Block) {xs : List Block} (h : xs ≠ []) :
    stripLast (x :: xs) = bytesOf x ++ stripLast xs := by
  cases xs with
  | nil => exact absurd rfl h
  | cons y ys => rfl

/-- R194, R197: a last segment of at most 8 bytes, a short one given back whole. -/
theorem stripLast_messageBlock {P : List Byte} (h0 : P ≠ []) (h8 : P.length ≤ 8) :
    stripLast [messageBlock P] = strippedMessage P := by
  have hpos := List.length_pos_of_ne_nil h0
  by_cases hfull : P.length = 8
  · rw [stripLast, messageBlock, if_pos hfull, bytesOf_blockOfBytes hfull, strippedMessage,
      if_pos ⟨h0, by omega⟩, hfull, Nat.sub_self, List.drop_zero]
  · have hcount : 8 - padCount (messageBlock P) = P.length := by
      rw [messageBlock, if_neg hfull, padCount_padBlock _ (by omega)]
      omega
    rw [stripLast, hcount, take_bytesOf_messageBlock h8, strippedMessage, if_neg (by omega)]

/-- A full segment before more is kept. -/
theorem strippedMessage_append {a P : List Byte} (ha : a.length = 8) (h0 : P ≠ []) :
    strippedMessage (a ++ P) = a ++ strippedMessage P := by
  have hmod : (a ++ P).length % 8 = P.length % 8 := by
    rw [List.length_append, ha, Nat.add_mod_left]
  have hpos := List.length_pos_of_ne_nil h0
  by_cases h : P.length % 8 = 0
  · have hlast : (a ++ P).drop ((a ++ P).length - 8) = P.drop (P.length - 8) := by
      rw [List.length_append, show a.length + P.length - 8 = a.length + (P.length - 8) by omega,
        List.drop_length_add_append]
    have hle := padCount_le_eight (blockOfBytes (P.drop (P.length - 8)))
    rw [strippedMessage, if_pos ⟨List.append_ne_nil_of_right_ne_nil a h0, hmod.trans h⟩, hlast,
      strippedMessage, if_pos ⟨h0, h⟩, List.length_append, Nat.add_sub_assoc (by omega),
      List.take_length_add_append]
  · rw [strippedMessage, if_neg fun hc => h (hmod.symm.trans hc.2), strippedMessage,
      if_neg fun hc => h hc.2]

/-- The message's blocks, the last one stripped, are R235's plaintext. -/
theorem stripLast_segments (P : List Byte) :
    stripLast ((segments P).map messageBlock) = strippedMessage P := by
  induction P using segments_induction with
  | nil => rfl
  | last P h0 h8 =>
    rw [segments_of_length_le h0 h8, List.map_singleton, stripLast_messageBlock h0 h8]
  | full a P ha h0 ih =>
    have hne : (segments P).map messageBlock ≠ [] := by
      rw [Ne, List.map_eq_nil_iff]
      exact segments_ne_nil h0
    rw [segments_append ha, List.map_cons, stripLast_cons _ hne, ih, messageBlock, if_pos ha,
      bytesOf_blockOfBytes ha, strippedMessage_append ha h0]

/-- Settles O55: the blocks are given back (R149), and the last one is stripped. -/
theorem messageRoundTrip : Obligations.MessageRoundTrip := by
  intro T hT K r P
  rw [msgDecrypt_msgEncrypt hT, stripLast_segments, strippedMessage]

/-! ### Diffusion by chaining (R236) -/

/-- C_i of R230 from i = 0 on, where C_0 is the block that the chaining starts from. -/
theorem getD_cbcEncryptBlocks (T : DesTables) (K prev : Block) (xs : List Block) {i : Nat}
    (hi : i < xs.length) :
    (cbcEncryptBlocks T K prev xs).getD i 0#64 =
      encryptBlock T K (xs.getD i 0#64 ^^^ (prev :: cbcEncryptBlocks T K prev xs).getD i 0#64) := by
  induction xs generalizing prev i with
  | nil => exact absurd hi (Nat.not_lt_zero i)
  | cons x xs ih =>
    cases i with
    | zero => rfl
    | succ i =>
      rw [cbcEncryptBlocks, List.getD_cons_succ, List.getD_cons_succ, List.getD_cons_succ]
      exact ih _ (Nat.lt_of_succ_lt_succ hi)

/-- R230's recurrence: `C_j <- ENC(K, X_j xor C_(j-1))`, counted from 0. -/
theorem getD_cipherBlocks (T : DesTables) (K : Block) (P : List Byte) (r : Block) {i : Nat}
    (hi : i < segmentCount P) :
    (cipherBlocks T K P r).getD i 0#64 =
      encryptBlock T K
        (messageBlock (msgSegment P i) ^^^ (r :: cipherBlocks T K P r).getD i 0#64) := by
  have hlt : i < ((segments P).map messageBlock).length := by
    rwa [List.length_map, length_segments]
  have hblock : ((segments P).map messageBlock).getD i 0#64 = messageBlock (msgSegment P i) := by
    rw [List.getD_eq_getElem _ _ hlt]
    simp [segments]
  rw [← hblock]
  exact getD_cbcEncryptBlocks T K r _ hlt

/-- R149: a key's encryption takes different blocks to different blocks. -/
theorem encryptBlock_injective {T : DesTables} (hT : T.Valid) (K : Block) :
    Function.Injective (encryptBlock T K) := fun x y h => by
  obtain ⟨hx, -⟩ := blockDecryptionInvertsEncryption T hT K x
  obtain ⟨hy, -⟩ := blockDecryptionInvertsEncryption T hT K y
  rw [← hx, h, hy]

section
variable {T : DesTables} {K r : Block} {P Q : List Byte} {i : Nat}

/-- Before the first difference of two messages, the chaining blocks are equal. -/
theorem cipherBlocks_eq_of_segments_eq (hlen : segmentCount P = segmentCount Q)
    (hi : i ≤ segmentCount P) (h : ∀ k < i, msgSegment P k = msgSegment Q k) :
    (r :: cipherBlocks T K P r).getD i 0#64 = (r :: cipherBlocks T K Q r).getD i 0#64 := by
  induction i with
  | zero => rfl
  | succ i ih =>
    rw [List.getD_cons_succ, List.getD_cons_succ, getD_cipherBlocks T K P r hi,
      getD_cipherBlocks T K Q r (hlen ▸ hi), h i (Nat.lt_succ_self i),
      ih (Nat.le_of_succ_le hi) fun k hk => h k (Nat.lt_succ_of_lt hk)]

/-- Different segments after equal chaining blocks give different ciphertext blocks. -/
theorem cipherBlocks_ne_of_segment_ne (hT : T.Valid) (hlen : P.length = Q.length)
    (hi : i < segmentCount P) (hne : msgSegment P i ≠ msgSegment Q i)
    (hchain : (r :: cipherBlocks T K P r).getD i 0#64 = (r :: cipherBlocks T K Q r).getD i 0#64) :
    (cipherBlocks T K P r).getD i 0#64 ≠ (cipherBlocks T K Q r).getD i 0#64 := by
  have hcount : segmentCount P = segmentCount Q := by rw [segmentCount, segmentCount, hlen]
  have hseg : (msgSegment P i).length = (msgSegment Q i).length := by simp [msgSegment, hlen]
  rw [getD_cipherBlocks T K P r hi, getD_cipherBlocks T K Q r (hcount ▸ hi), hchain]
  intro h
  exact hne (messageBlock_injective hseg (length_msgSegment_le P i)
    ((BitVec.xor_left_inj _).1 (encryptBlock_injective hT K h)))

/-- Equal segments after different chaining blocks give different ciphertext blocks. -/
theorem cipherBlocks_ne_of_chain_ne (hT : T.Valid) (hlen : segmentCount P = segmentCount Q)
    (hi : i < segmentCount P) (heq : msgSegment P i = msgSegment Q i)
    (hchain : (r :: cipherBlocks T K P r).getD i 0#64 ≠ (r :: cipherBlocks T K Q r).getD i 0#64) :
    (cipherBlocks T K P r).getD i 0#64 ≠ (cipherBlocks T K Q r).getD i 0#64 := by
  rw [getD_cipherBlocks T K P r hi, getD_cipherBlocks T K Q r (hlen ▸ hi), heq]
  exact fun h => hchain ((BitVec.xor_right_inj _).1 (encryptBlock_injective hT K h))

end

/-- Settles O56: from block j on, by induction along the chain (R236). -/
theorem chainingDiffusion : Obligations.ChainingDiffusion := by
  intro T hT K r P Q j hlen hne hsame i hji
  have hcount : segmentCount P = segmentCount Q := by rw [segmentCount, segmentCount, hlen]
  induction i, hji using Nat.le_induction with
  | base =>
    intro hj
    exact cipherBlocks_ne_of_segment_ne hT hlen hj hne
      (cipherBlocks_eq_of_segments_eq hcount hj.le fun k hk => hsame k hk.ne)
  | succ i hji ih =>
    intro hi
    exact cipherBlocks_ne_of_chain_ne hT hcount hi (hsame (i + 1) (by omega))
      (ih (Nat.lt_of_succ_lt hi))

end Sys2Proof.Machine
end

section
/-!
PROOFS. The host's accesses (30_encoding.md R88) on the machine with nothing pending: what each
answers, and the state it leaves.
-/
namespace Sys2Proof.Machine

/-! ### Single accesses -/

/-- An event put at the head of the schedule is what the next step handles (R62). -/
theorem step_push (s : State) (e : Event) : step (s.push e) = handleEvent e s :=
  step_cons (s := s.push e) rfl

theorem wr_eq (s : State) {off : Nat} (v : Word) (hlt : off < 0x100) (h4 : off % 4 = 0) :
    wr off v s = .ok ((s.busWrite off v).respond .written) := by
  simp only [wr, step_push, handleEvent_write hlt h4, State.respond_response, if_true]

theorem rd_eq (s : State) {off : Nat} (hlt : off < 0x100) (h4 : off % 4 = 0) :
    rd off s = .ok ((s.busRead off).1, (s.busRead off).2.respond (.data (s.busRead off).1)) := by
  simp only [rd, step_push, handleEvent_read hlt h4, State.respond_response]

/-- With nothing pending a read answers the register (R55). -/
theorem rd_of_idle {s : State} {off : Nat} (hlt : off < 0x100) (h4 : off % 4 = 0)
    (hidle : s.pending = none) :
    rd off s = .ok (s.readReg off, s.respond (.data (s.readReg off))) := by
  have hread : s.busRead off = (s.readReg off, s) := by
    rw [State.busRead, State.busy, hidle]
    simp
  rw [rd_eq s hlt h4, hread]

/-- STATUS reads as itself, busy or not (R39, R55). -/
theorem rd_status (s : State) : rd 0x08 s = .ok (s.statusWord, s.respond (.data s.statusWord)) :=
  rd_eq s (by decide) rfl

/-- With nothing pending a write to a data register is taken (R56). -/
theorem wr_data {s : State} {off : Nat} (v : Word) (hw : isWritableData off = true)
    (h4 : off % 4 = 0) (hidle : s.pending = none) :
    wr off v s = .ok ((s.writeData off v).respond .written) := by
  have hoff := (isWritableData_iff off).1 hw
  rw [wr_eq s v (by omega) h4, s.busWrite_data v hw, State.writeDataOrRefuse, State.busy, hidle]
  rfl

/-- `wr64` of a pair of data registers, with nothing pending (R88). -/
theorem wr64_of_idle {s : State} {reg : Nat} (v : Block) (hhi : isWritableData reg = true)
    (hlo : isWritableData (reg + 4) = true) (h4 : reg % 4 = 0) (hidle : s.pending = none) :
    wr64 reg v s =
      .ok ((((s.writeData reg (hi32 v)).respond .written).writeData (reg + 4) (lo32 v)).respond
        .written) := by
  obtain ⟨-, -, -, -, -, -, hpend, -⟩ := s.writeData_frame reg (hi32 v)
  have hidle' : ((s.writeData reg (hi32 v)).respond .written).pending = none := hpend.trans hidle
  simp only [wr64, wr_data (hi32 v) hhi h4 hidle]
  exact wr_data _ hlo (by omega) hidle'

theorem wr64_key {s : State} (v : Block) (hidle : s.pending = none) :
    wr64 0x18 v s = .ok ({ s with key := v }.respond .written) := by
  rw [wr64_of_idle v rfl rfl rfl hidle]
  simp [State.writeData, State.respond]

theorem wr64_din {s : State} (v : Block) (hidle : s.pending = none) :
    wr64 0x20 v s = .ok ({ s with din := v }.respond .written) := by
  rw [wr64_of_idle v rfl rfl rfl hidle]
  simp [State.writeData, State.respond]

theorem wr64_chain {s : State} (v : Block) (hidle : s.pending = none) :
    wr64 0x30 v s = .ok ({ s with chain := v }.respond .written) := by
  rw [wr64_of_idle v rfl rfl rfl hidle]
  simp [State.writeData, State.respond]

/-- `rd64 DOUT` with nothing pending (R88). -/
theorem rd64_dout {s : State} (hidle : s.pending = none) :
    rd64 0x28 s = .ok (s.dout, s.respond (.data (lo32 s.dout))) := by
  have hhi := rd_of_idle (off := 0x28) (by decide) rfl hidle
  have hlo :=
    rd_of_idle (s := s.respond (.data (s.readReg 0x28))) (off := 0x2C) (by decide) rfl hidle
  simp only [rd64, hhi, hlo]
  exact congrArg (fun v => Except.ok (v, s.respond (.data (lo32 s.dout)))) (hi32_append_lo32 s.dout)

/-! ### Running a command -/

theorem statusWord_busy (s : State) : s.statusWord.getLsbD 0 = s.busy := by
  rw [statusWordFields s 0, if_pos rfl, State.busy]
  cases s.pending <;> rfl

theorem statusWord_done (s : State) : s.statusWord.getLsbD 1 = s.done :=
  statusWordFields s 1

theorem statusWord_err (s : State) : s.statusWord.getLsbD 2 = s.err :=
  statusWordFields s 2

theorem letEngineRun_eq (s : State) {t : State} (h : engineTurn s = .next t) :
    letEngineRun s = .ok t := by
  have hstep : step (s.push .engine) = .next t := (step_push s .engine).trans h
  simp only [letEngineRun, hstep]

@[simp] theorem State.respond_datapath (s : State) (r : BusResponse) :
    (s.respond r).datapath = s.datapath := rfl
@[simp] theorem State.respond_setDatapath (s : State) (r : BusResponse) (p : Datapath) :
    (s.respond r).setDatapath p = (s.setDatapath p).respond r := rfl

/-- The block procedure does not read what the bus answered (R150). -/
@[simp] theorem State.respond_blockResult (s : State) (r : BusResponse) (T : DesTables) (dir : Dir)
    (x : Block) : (s.respond r).blockResult T dir x = s.blockResult T dir x := by
  rw [State.blockResult, State.respond_key, State.respond_datapath, State.blockResult]

/-- The block procedure leaves what the bus answered alone (R150). -/
@[simp] theorem State.respond_runBlock (s : State) (r : BusResponse) (T : DesTables) (dir : Dir)
    (x : Block) : (s.respond r).runBlock T dir x = (s.runBlock T dir x).respond r := by
  rw [State.runBlock, State.respond_key, State.respond_datapath, State.respond_setDatapath,
    State.runBlock]

/-- No command reads or writes what the bus answered (log entry 6), for every choice of the
tables. -/
theorem execWith_respond (T : DesTables) (i : Instr) (s : State) (r : BusResponse) :
    ∃ t, execWith T i s = .next t ∧ execWith T i (s.respond r) = .next (t.respond r) := by
  cases i with
  | sbox n | pad n =>
    by_cases h : n.toNat < 8
    · exact ⟨_, if_pos (decide_eq_true h), if_pos (decide_eq_true h)⟩
    · exact ⟨_, if_neg fun hw => h (of_decide_eq_true hw),
        if_neg fun hw => h (of_decide_eq_true hw)⟩
  | ksEncStep n | ksDecStep n =>
    by_cases h : n.toNat < 16
    · exact ⟨_, if_pos (decide_eq_true h), if_pos (decide_eq_true h)⟩
    · exact ⟨_, if_neg fun hw => h (of_decide_eq_true hw),
        if_neg fun hw => h (of_decide_eq_true hw)⟩
  | modexp =>
    by_cases h : s.rsaMod = 0#32
    · exact ⟨_, if_pos h, if_pos h⟩
    · exact ⟨_, if_neg h, if_neg h⟩
  | encBlock | decBlock | cbcEnc | cbcDec =>
    simp only [execWith, execEncBlockWith, execDecBlockWith, execCbcEncWith, execCbcDecWith,
      State.respond_din, State.respond_chain, State.respond_blockResult, State.respond_runBlock]
    exact ⟨_, rfl, rfl⟩
  | _ => exact ⟨_, rfl, rfl⟩

/-- The same for the machine of `exec`. -/
theorem exec_respond {i : Instr} {s t : State} (r : BusResponse) (h : exec i s = .next t) :
    exec i (s.respond r) = .next (t.respond r) := by
  obtain ⟨u, hu, hres⟩ := execWith_respond tables i s r
  rw [exec_eq_execWith, hu] at h
  cases h
  exact (exec_eq_execWith i _).trans hres

/-- `wait` with nothing pending ends at its first read of STATUS (R88). -/
theorem wait_of_idle (polls : Nat) {s : State} (hidle : s.pending = none) :
    wait polls s = .ok (s.respond (.data s.statusWord)) := by
  have hbit : s.statusWord.getLsbD 0 = false := by rw [statusWord_busy, State.busy, hidle]; rfl
  cases polls with
  | zero =>
    simp only [wait, letEngineRun_eq s (engineTurn_none hidle), rd_status, hbit, Bool.false_eq_true,
      if_false]
  | succ polls => simp only [wait, rd_status, hbit, Bool.false_eq_true, if_false]

/-- `wait` for a pending command ends, after any number of polls, in the state its completion leaves
(R88, R266). -/
theorem wait_of_pending (polls : Nat) {i : Instr} {s t : State} (hp : s.pending = some (encode i))
    (hexec : exec i s = .next t) : wait polls s = .ok (t.respond (.data t.statusWord)) := by
  obtain ⟨-, -, -, hidle⟩ := exec_model_fields hexec
  induction polls generalizing s t with
  | zero =>
    have hturn : engineTurn s = .next t := (engineTurn_some hp (decode_encode i)).trans hexec
    have hbit : t.statusWord.getLsbD 0 = false := by rw [statusWord_busy, State.busy, hidle]; rfl
    simp only [wait, letEngineRun_eq s hturn, rd_status, hbit, Bool.false_eq_true, if_false]
  | succ polls ih =>
    have hbit : s.statusWord.getLsbD 0 = true := by rw [statusWord_busy, State.busy, hp]; rfl
    simp only [wait, rd_status, hbit, if_true]
    exact ih (t := t.respond _) hp (exec_respond _ hexec) hidle

/-- R264: Check passes the word of a command in range, MODEXP's with a modulus that is not 0. -/
theorem State.check_encode_accepted (s : State) {i : Instr} (hw : i.wellFormed = true)
    (hm : ¬ (i = .modexp ∧ s.rsaMod = 0#32)) : s.check (encode i) = .none := by
  rw [s.check_of_command (decode_encode i), if_pos hw, if_neg hm]

theorem cmd_eq (s : State) (i : Instr) :
    cmd i s = .ok ((s.submit (encode i)).respond .written) := wr_eq s _ (by decide) rfl

/-- `run` of an accepted command, whatever its latency (R88, R260, R266). -/
theorem run_of_accepted (polls : Nat) {i : Instr} {s t : State} (hidle : s.pending = none)
    (hcheck : s.check (encode i) = .none)
    (hexec : exec i (s.clearDone.accept (encode i)) = .next t) :
    run polls i s = .ok (t.respond (.data t.statusWord)) := by
  have hsubmit : s.submit (encode i) = s.clearDone.accept (encode i) := by
    obtain ⟨hbusy, -⟩ | ⟨-, -, heq⟩ | ⟨-, hrefused, -⟩ := s.submit_cases (encode i)
    · exact absurd hidle hbusy
    · exact heq
    · exact absurd hcheck hrefused
  simp only [run, cmd_eq, hsubmit]
  exact wait_of_pending (t := t.respond _) polls rfl (exec_respond _ hexec)

/-- `run` of a rejected command (R88, R260). -/
theorem run_of_rejected (polls : Nat) {i : Instr} {s : State} {code : ErrCode}
    (hidle : s.pending = none) (hcheck : s.check (encode i) = code) (hcode : code ≠ .none) :
    run polls i s =
      .ok ((s.reject code (encode i)).respond (.data (s.reject code (encode i)).statusWord)) := by
  subst hcheck
  have hsubmit : s.submit (encode i) = s.reject (s.check (encode i)) (encode i) := by
    obtain ⟨hbusy, -⟩ | ⟨-, hpass, -⟩ | ⟨-, -, heq⟩ := s.submit_cases (encode i)
    · exact absurd hidle hbusy
    · exact absurd hpass hcode
    · exact heq
  simp only [run, cmd_eq, hsubmit]
  exact wait_of_idle polls rfl

/-- `run` of an accepted command that leaves no error, and the host's look at ERR (R231). -/
theorem runChecked_of_accepted (polls : Nat) {i : Instr} {s t : State} (hidle : s.pending = none)
    (hcheck : s.check (encode i) = .none)
    (hexec : exec i (s.clearDone.accept (encode i)) = .next t) (herr : t.err = false) :
    runChecked polls i s = .ok (t.respond (.data t.statusWord)) := by
  have hrun := run_of_accepted polls hidle hcheck hexec
  have hbit : (t.respond (.data t.statusWord)).statusWord.getLsbD 2 = false :=
    (statusWord_err _).trans herr
  simp only [runChecked, hrun, rd_status, hbit, Bool.false_eq_true, if_false]
  rfl

end Sys2Proof.Machine
end

section
/-!
PROOFS. The host procedures for DES-like messages, run on the machine (47_message_level.md R231,
R234).
-/
namespace Sys2Proof.Machine

/-! ### The chaining commands, on the registers the procedures use -/

/-- R145: the block procedure on the machine gives `ENC(KEY, x)`. -/
theorem State.blockResult_enc (s : State) (x : Block) :
    s.blockResult tables .enc x = encryptBlock tables s.key x :=
  (blockValueIgnoresOldDatapath tables s.key x s.datapath).1

/-- R146: the block procedure on the machine gives `DEC(KEY, x)`. -/
theorem State.blockResult_dec (s : State) (x : Block) :
    s.blockResult tables .dec x = decryptBlock tables s.key x :=
  (blockValueIgnoresOldDatapath tables s.key x s.datapath).2

/-- R190: CBC_ENC in the terms of R230. -/
theorem exec_cbcEnc (s : State) :
    ∃ t, exec .cbcEnc s = .next t
      ∧ t.dout = encryptBlock tables s.key (s.din ^^^ s.chain) ∧ t.chain = t.dout
      ∧ t.key = s.key ∧ t.err = s.err ∧ t.pending = none ∧ t.events = s.events := by
  rw [exec, execCbcEnc, execCbcEncWith, State.blockResult_enc]
  exact ⟨_, rfl, by simp [State.runBlock]⟩

/-- R191: CBC_DEC in the terms of R233. -/
theorem exec_cbcDec (s : State) :
    ∃ t, exec .cbcDec s = .next t
      ∧ t.dout = decryptBlock tables s.key s.din ^^^ s.chain ∧ t.chain = s.din
      ∧ t.key = s.key ∧ t.err = s.err ∧ t.pending = none ∧ t.events = s.events := by
  rw [exec, execCbcDec, execCbcDecWith, State.blockResult_dec]
  exact ⟨_, rfl, by simp [State.runBlock]⟩

/-- What the procedures rely on between two blocks: nothing is pending, KEY and CHAIN hold `K` and
`chain`, and ERR and the schedule are `err` and `es`. -/
structure ReadyForBlock (K chain : Block) (err : Bool) (es : List Event) (s : State) : Prop where
  idle : s.pending = none
  key : s.key = K
  chain : s.chain = chain
  err : s.err = err
  events : s.events = es

section
variable {K chain : Block} {err : Bool} {es : List Event} {s : State}

theorem ReadyForBlock.respond (h : ReadyForBlock K chain err es s) (r : BusResponse) :
    ReadyForBlock K chain err es (s.respond r) :=
  ⟨h.idle, h.key, h.chain, h.err, h.events⟩

/-- A block written to DIN. -/
theorem ReadyForBlock.wr64_din (h : ReadyForBlock K chain err es s) (x : Block) :
    ∃ t, wr64 0x20 x s = .ok t ∧ t.din = x ∧ ReadyForBlock K chain err es t :=
  ⟨_, Machine.wr64_din x h.idle, rfl, ⟨h.idle, h.key, h.chain, h.err, h.events⟩⟩

/-- The result read from DOUT. -/
theorem ReadyForBlock.rd64_dout (h : ReadyForBlock K chain err es s) :
    ∃ t, rd64 0x28 s = .ok (s.dout, t) ∧ ReadyForBlock K chain err es t :=
  ⟨_, Machine.rd64_dout h.idle, h.respond _⟩

/-- R231, R193: PAD n on the block in DIN. -/
theorem ReadyForBlock.run_pad (h : ReadyForBlock K chain false es s) (polls : Nat) {n : Nat}
    (hn : n < 8) :
    ∃ t, runChecked polls (.pad (BitVec.ofNat 8 n)) s = .ok t ∧ t.dout = padBlock s.din n
      ∧ ReadyForBlock K chain false es t := by
  have hoperand : (BitVec.ofNat 8 n).toNat = n := by
    rw [BitVec.toNat_ofNat]
    omega
  have hlt : (BitVec.ofNat 8 n).toNat < 8 := hoperand.symm ▸ hn
  have hcheck :=
    s.check_encode_accepted (i := .pad (BitVec.ofNat 8 n)) (decide_eq_true hlt) (by simp)
  have hexec := exec_pad (s.clearDone.accept (encode (.pad (BitVec.ofNat 8 n)))) hlt
  refine ⟨_, runChecked_of_accepted polls h.idle hcheck hexec h.err, ?_,
    ⟨rfl, h.key, h.chain, h.err, h.events⟩⟩
  exact congrArg (padBlock s.din) hoperand

/-- R231, R190: CBC_ENC on the block in DIN. -/
theorem ReadyForBlock.run_cbcEnc (h : ReadyForBlock K chain false es s) (polls : Nat) :
    ∃ t, runChecked polls .cbcEnc s = .ok t ∧ t.dout = encryptBlock tables K (s.din ^^^ chain)
      ∧ ReadyForBlock K (encryptBlock tables K (s.din ^^^ chain)) false es t := by
  obtain ⟨hidle, rfl, rfl, herr, hevents⟩ := h
  have hcheck := s.check_encode_accepted (i := .cbcEnc) rfl (by simp)
  obtain ⟨t, hexec, hdout, hchain, hkey, herr', hpend, hevents'⟩ :=
    exec_cbcEnc (s.clearDone.accept (encode .cbcEnc))
  have hterr : t.err = false := herr'.trans herr
  exact ⟨_, runChecked_of_accepted polls hidle hcheck hexec hterr, hdout,
    ⟨hpend, hkey, hchain.trans hdout, hterr, hevents'.trans hevents⟩⟩

/-- R234, R191: CBC_DEC on the block in DIN. -/
theorem ReadyForBlock.run_cbcDec (h : ReadyForBlock K chain err es s) (polls : Nat) :
    ∃ t, run polls .cbcDec s = .ok t ∧ t.dout = decryptBlock tables K s.din ^^^ chain
      ∧ ReadyForBlock K s.din err es t := by
  obtain ⟨hidle, rfl, rfl, herr, hevents⟩ := h
  have hcheck := s.check_encode_accepted (i := .cbcDec) rfl (by simp)
  obtain ⟨t, hexec, hdout, hchain, hkey, herr', hpend, hevents'⟩ :=
    exec_cbcDec (s.clearDone.accept (encode .cbcDec))
  exact ⟨_, run_of_accepted polls hidle hcheck hexec, hdout,
    ⟨hpend, hkey, hchain, herr'.trans herr, hevents'.trans hevents⟩⟩

/-! ### Encryption (R231) -/

/-- R231's preparation of a block leaves the block of R230 in DIN. -/
theorem hostLoadSegment_eq (h : ReadyForBlock K chain false es s) (polls : Nat) {seg : List Byte}
    (hseg : seg.length ≤ 8) :
    ∃ t, hostLoadSegment polls seg s = .ok t ∧ t.din = messageBlock seg
      ∧ ReadyForBlock K chain false es t := by
  by_cases h8 : seg.length = 8
  · rw [hostLoadSegment, if_pos h8, messageBlock, if_pos h8]
    exact h.wr64_din _
  · obtain ⟨s1, hwr, hdin, h1⟩ := h.wr64_din (zeroFilled seg)
    obtain ⟨s2, hpad, hdout, h2⟩ := h1.run_pad polls (n := seg.length) (by omega)
    obtain ⟨s3, hrd, h3⟩ := h2.rd64_dout
    simp only [hostLoadSegment, if_neg h8, hwr, hpad, hrd]
    rw [hdout, hdin, messageBlock, if_neg h8]
    exact h3.wr64_din _

/-- The loop of R231 emits the ciphertext blocks of R230. -/
theorem hostEncryptLoop_eq (polls : Nat → Nat) (j : Nat) {segs : List (List Byte)}
    (hsegs : ∀ seg ∈ segs, seg.length ≤ 8) (h : ReadyForBlock K chain false es s) :
    ∃ t, hostEncryptLoop polls j segs s =
        .ok ((cbcEncryptBlocks tables K chain (segs.map messageBlock)).flatMap bytesOf, t)
      ∧ t.pending = none ∧ t.err = false ∧ t.events = es := by
  induction segs generalizing j chain s with
  | nil => exact ⟨s, rfl, h.idle, h.err, h.events⟩
  | cons seg more ih =>
    obtain ⟨hseg, hmore⟩ := List.forall_mem_cons.1 hsegs
    obtain ⟨s1, hload, hdin, h1⟩ := hostLoadSegment_eq h (polls (2 * j)) hseg
    obtain ⟨s2, henc, hdout, h2⟩ := h1.run_cbcEnc (polls (2 * j + 1))
    obtain ⟨s3, hrd, h3⟩ := h2.rd64_dout
    obtain ⟨t, hloop, hend⟩ := ih (j + 1) hmore h3
    refine ⟨t, ?_, hend⟩
    simp only [hostEncryptLoop, hload, henc, hrd, hloop]
    rw [hdout, hdin]
    rfl

end

/-- R231, R192: IV_GEN draws the block that the chaining starts from, and puts it in CHAIN and
DOUT. -/
theorem runChecked_ivGen (polls : Nat) {s : State} (hidle : s.pending = none)
    (herr : s.err = false) :
    ∃ t, runChecked polls .ivGen s = .ok t ∧ t.dout = Config.entropy s.entropyDraws
      ∧ ReadyForBlock s.key (Config.entropy s.entropyDraws) false s.events t := by
  have hcheck := s.check_encode_accepted (i := .ivGen) rfl (by simp)
  have hexec := exec_ivGen (s.clearDone.accept (encode .ivGen))
  exact ⟨_, runChecked_of_accepted polls hidle hcheck hexec herr, rfl, ⟨rfl, rfl, rfl, herr, rfl⟩⟩

/-- Settles O57: KEY loaded, the IV drawn and emitted, then the loop over the segments (R231). -/
theorem hostEncryptionMeetsContract : Obligations.HostEncryptionMeetsContract := by
  intro polls K P s hidle herr
  have hsegs : ∀ seg ∈ segments P, seg.length ≤ 8 := by
    intro seg hseg
    obtain ⟨j, -, rfl⟩ := List.mem_map.1 hseg
    exact length_msgSegment_le P j
  have hkey := wr64_key K hidle
  obtain ⟨s2, hiv, hdout, h2⟩ :=
    runChecked_ivGen (polls 0) (s := { s with key := K }.respond .written) hidle herr
  obtain ⟨s3, hrd, h3⟩ := h2.rd64_dout
  obtain ⟨t, hloop, hend⟩ := hostEncryptLoop_eq polls 1 hsegs h3
  refine ⟨t, ?_, hend⟩
  simp only [hostMsgEncrypt, hkey, hiv, hrd, hloop]
  rw [hdout]
  rfl

/-! ### Decryption (R234) -/

section
variable {K chain : Block} {err : Bool} {es : List Event} {s : State}

/-- One block of R234's loop, in the terms of R233. -/
theorem hostDecryptBlock_eq (h : ReadyForBlock K chain err es s) (polls : Nat) (c : Block) :
    ∃ t, hostDecryptBlock polls c s = .ok (decryptBlock tables K c ^^^ chain, t)
      ∧ ReadyForBlock K c err es t := by
  obtain ⟨s1, hwr, rfl, h1⟩ := h.wr64_din c
  obtain ⟨s2, hdec, hdout, h2⟩ := h1.run_cbcDec polls
  obtain ⟨t, hrd, h3⟩ := h2.rd64_dout
  refine ⟨t, ?_, h3⟩
  simp only [hostDecryptBlock, hwr, hdec, hrd, hdout]

/-- R234, R196: UNPAD on the block in DIN. -/
theorem run_unpad (polls : Nat) (hidle : s.pending = none) :
    ∃ t, run polls .unpad s = .ok t ∧ t.pending = none
      ∧ t.dout = BitVec.ofNat 64 (padCount s.din) := by
  have hcheck := s.check_encode_accepted (i := .unpad) rfl (by simp)
  have hexec := exec_unpad (s.clearDone.accept (encode .unpad))
  exact ⟨_, run_of_accepted polls hidle hcheck hexec, rfl, rfl⟩

/-- R195: the low word of DOUT holds the whole count. -/
theorem toNat_lo32_padCount (x : Block) :
    (lo32 (BitVec.ofNat 64 (padCount x))).toNat = padCount x := by
  have hle := padCount_le_eight x
  rw [lo32, BitVec.extractLsb'_toNat, BitVec.toNat_ofNat, Nat.shiftRight_zero]
  omega

/-- R234's end: the last block's padding is counted and left out. -/
theorem hostEmitLast_eq (h : ReadyForBlock K chain err es s) (polls : Nat) (x : Block) :
    ∃ t, hostEmitLast polls x s = .ok (stripLast [x], t) := by
  obtain ⟨s1, hwr, rfl, h1⟩ := h.wr64_din x
  obtain ⟨s2, hrun, hidle, hdout⟩ := run_unpad polls h1.idle
  have hrd := rd_of_idle (off := 0x2C) (by decide) rfl hidle
  have hread : s2.readReg 0x2C = lo32 (BitVec.ofNat 64 (padCount s1.din)) := congrArg lo32 hdout
  refine ⟨s2.respond (.data (s2.readReg 0x2C)), ?_⟩
  simp only [hostEmitLast, hwr, hrun, hrd, hread, toNat_lo32_padCount, stripLast]

/-- The loop of R234 gives R233's plaintext. -/
theorem hostDecryptLoop_eq (polls : Nat → Nat) (j : Nat) (cs : List Block)
    (h : ReadyForBlock K chain err es s) :
    ∃ t, hostDecryptLoop polls j cs s =
      .ok (stripLast (cbcDecryptBlocks tables K chain cs), t) := by
  induction cs generalizing j chain s with
  | nil => exact ⟨s, rfl⟩
  | cons c more ih =>
    obtain ⟨s1, hblock, h1⟩ := hostDecryptBlock_eq h (polls (2 * j)) c
    cases more with
    | nil =>
      obtain ⟨t, hlast⟩ :=
        hostEmitLast_eq h1 (polls (2 * j + 1)) (decryptBlock tables K c ^^^ chain)
      refine ⟨t, ?_⟩
      simp only [hostDecryptLoop, hblock, if_true, hlast, cbcDecryptBlocks]
    | cons c' more =>
      obtain ⟨t, hloop⟩ := ih (j + 1) h1
      refine ⟨t, ?_⟩
      rw [hostDecryptLoop]
      simp only [hblock, reduceCtorEq, if_false, hloop]
      rfl

end

/-- Settles O58: a malformed length fails on both sides; else KEY and CHAIN are loaded, and the loop
runs over the blocks after the IV (R234). -/
theorem hostDecryptionMeetsContract : Obligations.HostDecryptionMeetsContract := by
  intro polls K C s hidle
  rw [hostMsgDecrypt, msgDecrypt]
  by_cases hC : malformedCipher C = true
  · rw [if_pos hC, if_pos hC]
    rfl
  · have hkey := wr64_key K hidle
    have hchain := wr64_chain (s := { s with key := K }.respond .written)
      (blockOfBytes (msgSegment C 0)) hidle
    have hready : ReadyForBlock K (blockOfBytes (msgSegment C 0)) s.err s.events
        ({ { s with key := K }.respond .written with
          chain := blockOfBytes (msgSegment C 0) }.respond .written) :=
      ⟨hidle, rfl, rfl, rfl, rfl⟩
    obtain ⟨t, hloop⟩ :=
      hostDecryptLoop_eq polls 1 ((segments C).tail.map blockOfBytes) hready
    rw [if_neg hC, if_neg hC]
    simp only [hkey, hchain, hloop]
    rfl

end Sys2Proof.Machine
end

section
/-!
PROOFS. RSA-style text (47_message_level.md R238 to R240): decryption inverts encryption, and the
host procedures, run on the machine, give the two functions.
-/
namespace Sys2Proof.Machine

/-! ### Words as bytes (R240) -/

@[simp] theorem length_be32 (w : Word) : (be32 w).length = 4 := rfl

/-- R240: the big-endian value of a word's four bytes is the word. -/
theorem wordOfBytes_be32 (w : Word) : wordOfBytes (be32 w) = w := by
  show w.extractLsb' 24 8 ++ w.extractLsb' 16 8 ++ w.extractLsb' 8 8 ++ w.extractLsb' 0 8 = w
  rw [BitVec.extractLsb'_append_extractLsb'_eq_extractLsb' (start₁ := 16) (len₁ := 8) rfl,
    BitVec.extractLsb'_append_extractLsb'_eq_extractLsb' (start₁ := 8) (len₁ := 8) rfl,
    BitVec.extractLsb'_append_extractLsb'_eq_extractLsb' (start₁ := 0) (len₁ := 8) rfl]
  exact BitVec.extractLsb'_eq_self

/-- The first four bytes are the first word. -/
theorem rsaWords_append {a : List Byte} (ha : a.length = 4) (B : List Byte) :
    rsaWords (a ++ B) = wordOfBytes a :: rsaWords B := by
  have hcount : (a ++ B).length / 4 = B.length / 4 + 1 := by
    rw [List.length_append, ha]
    omega
  have hword (t : Nat) : (a ++ B).drop (4 * (t + 1)) = B.drop (4 * t) := by
    rw [show 4 * (t + 1) = a.length + 4 * t by omega, List.drop_length_add_append]
  have hfirst : ((a ++ B).drop (4 * 0)).take 4 = a := by
    rw [Nat.mul_zero, List.drop_zero, ← ha, List.take_left]
  rw [rsaWords, hcount, List.range_succ_eq_map, List.map_cons, hfirst, List.map_map, rsaWords]
  refine congrArg _ (List.map_congr_left fun t _ => ?_)
  rw [Function.comp_apply, Nat.succ_eq_add_one, hword]

/-- The words of the bytes of words. -/
theorem rsaWords_flatMap_be32 (ws : List Word) : rsaWords (ws.flatMap be32) = ws := by
  induction ws with
  | nil => rfl
  | cons w ws ih =>
    rw [List.flatMap_cons, rsaWords_append (length_be32 w), wordOfBytes_be32, ih]

/-- Bytes of whole words, at least one, hold a first word. -/
theorem rsaWords_ne_nil {B : List Byte} (h4 : B.length % 4 = 0) (h : B ≠ []) : rsaWords B ≠ [] := by
  have hpos := List.length_pos_of_ne_nil h
  refine List.ne_nil_of_length_pos ?_
  rw [rsaWords, List.length_map, List.length_range]
  omega

/-! ### The text round trip (R239) -/

/-- R239's condition gives a code unit back from its encryption. -/
theorem codeUnit_modExp_modExp {e d n : Word} {u : BitVec 16} (hu : u.toNat < n.toNat)
    (hinv : ∀ x, x < n.toNat → x ^ (e.toNat * d.toNat) % n.toNat = x % n.toNat) :
    codeUnit (modExp (modExp (u.setWidth 32) e n) d n) = .ok u := by
  have hn : n ≠ 0#32 := by
    rintro rfl
    exact Nat.not_lt_zero _ hu
  have hwide : (u.setWidth 32).toNat = u.toNat := by
    rw [BitVec.toNat_setWidth]
    omega
  have hback : (modExp (modExp (u.setWidth 32) e n) d n).toNat = u.toNat :=
    calc (modExp (modExp (u.setWidth 32) e n) d n).toNat
        = (u.toNat ^ e.toNat % n.toNat) ^ d.toNat % n.toNat := by
          rw [toNat_modExp _ _ hn, toNat_modExp _ _ hn, hwide]
      _ = u.toNat ^ (e.toNat * d.toNat) % n.toNat := by rw [← Nat.pow_mod, ← pow_mul]
      _ = u.toNat := by rw [hinv _ hu, Nat.mod_eq_of_lt hu]
  have hunit : (modExp (modExp (u.setWidth 32) e n) d n).setWidth 16 = u := by
    apply BitVec.eq_of_toNat_eq
    rw [BitVec.toNat_setWidth, hback, Nat.mod_eq_of_lt u.isLt]
  rw [codeUnit, if_pos (hback ▸ u.isLt), hunit]

/-- The loop of R239 gives back the code units of an encrypted text. -/
theorem rsaDecryptWords_modExp {e d n : Word} {U : List (BitVec 16)}
    (hU : ∀ u ∈ U, u.toNat < n.toNat)
    (hinv : ∀ x, x < n.toNat → x ^ (e.toNat * d.toNat) % n.toNat = x % n.toNat) :
    rsaDecryptWords d n (U.map fun u => modExp (u.setWidth 32) e n) = .ok U := by
  induction U with
  | nil => rfl
  | cons u U ih =>
    obtain ⟨hu, hrest⟩ := List.forall_mem_cons.1 hU
    simp only [List.map_cons, rsaDecryptWords, codeUnit_modExp_modExp hu hinv, ih hrest]

/-- Modulus 0 leaves only the empty text below it (log entry 22). -/
theorem eq_nil_of_modulus_zero {n : Word} {U : List (BitVec 16)} (hU : ∀ u ∈ U, u.toNat < n.toNat)
    (hn : n = 0#32) : U = [] := by
  subst hn
  exact List.eq_nil_iff_forall_not_mem.2 fun u hu => Nat.not_lt_zero _ (hU u hu)

/-- Settles O60: the words are read back, and each gives its code unit back (R239). -/
theorem rsaTextRoundTrip : Obligations.RsaTextRoundTrip := by
  intro e d n U hU hinv
  have hbytes : U.flatMap (fun u => be32 (modExp (u.setWidth 32) e n)) =
      (U.map fun u => modExp (u.setWidth 32) e n).flatMap be32 :=
    (List.flatMap_map ..).symm
  have henc : ¬ (n = 0#32 ∧ U ≠ []) := fun h => h.2 (eq_nil_of_modulus_zero hU h.1)
  have hlen : ¬ (U.flatMap fun u => be32 (modExp (u.setWidth 32) e n)).length % 4 ≠ 0 := by
    simp [List.length_flatMap]
  have hdec : ¬ (n = 0#32 ∧ U.flatMap (fun u => be32 (modExp (u.setWidth 32) e n)) ≠ []) := by
    rintro ⟨hn, hne⟩
    rw [eq_nil_of_modulus_zero hU hn] at hne
    exact hne rfl
  refine ⟨_, by rw [rsaEncrypt, if_neg henc], ?_⟩
  rw [rsaDecrypt, if_neg hlen, if_neg hdec, hbytes, rsaWords_flatMap_be32,
    rsaDecryptWords_modExp hU hinv]

/-! ### The procedures on the machine (R238, R239) -/

/-- What the procedures rely on between two code units: nothing is pending, and RSA_EXP and RSA_MOD
hold `e` and `n`. An error recorded before does not matter (R262). -/
structure ReadyForModexp (e n : Word) (s : State) : Prop where
  idle : s.pending = none
  exponent : s.rsaExp = e
  modulus : s.rsaMod = n

theorem wr_rsaBase {s : State} (v : Word) (hidle : s.pending = none) :
    wr 0x50 v s = .ok ({ s with rsaBase := v }.respond .written) := wr_data v rfl rfl hidle

theorem wr_rsaExp {s : State} (v : Word) (hidle : s.pending = none) :
    wr 0x54 v s = .ok ({ s with rsaExp := v }.respond .written) := wr_data v rfl rfl hidle

theorem wr_rsaMod {s : State} (v : Word) (hidle : s.pending = none) :
    wr 0x58 v s = .ok ({ s with rsaMod := v }.respond .written) := wr_data v rfl rfl hidle

/-- R238: the exponent and the modulus are loaded. -/
theorem hostLoadRsa_eq (e n : Word) {s : State} (hidle : s.pending = none) :
    ∃ t, hostLoadRsa e n s = .ok t ∧ ReadyForModexp e n t := by
  have hexp := wr_rsaExp e hidle
  have hmod := wr_rsaMod (s := { s with rsaExp := e }.respond .written) n hidle
  simp only [hostLoadRsa, hexp]
  exact ⟨_, hmod, ⟨hidle, rfl, rfl⟩⟩

/-- R221: MODEXP with a modulus that is not 0, on the registers the procedures use. -/
theorem exec_modexp_registers {s : State} (hn : s.rsaMod ≠ 0#32) :
    ∃ t, exec .modexp s = .next t ∧ t.rsaRes = modExp s.rsaBase s.rsaExp s.rsaMod
      ∧ t.done = true ∧ t.pending = none ∧ t.rsaExp = s.rsaExp ∧ t.rsaMod = s.rsaMod :=
  ⟨_, exec_modexp hn, rfl, rfl, rfl, rfl, rfl⟩

section
variable {e n : Word} {s : State}

/-- R238, R221: with a modulus that is not 0, MODEXP puts the value of R220 into RSA_RES, and the
host sees DONE = 1. -/
theorem runModexp_eq (h : ReadyForModexp e n s) (hn : n ≠ 0#32) (polls : Nat) :
    ∃ t, runModexp polls s = .ok t ∧ t.rsaRes = modExp s.rsaBase e n ∧ ReadyForModexp e n t := by
  obtain ⟨hidle, rfl, rfl⟩ := h
  have hcheck := s.check_encode_accepted (i := .modexp) rfl fun hm => hn hm.2
  obtain ⟨t, hexec, hres, hdone, hpend, hexp, hmod⟩ :=
    exec_modexp_registers (s := s.clearDone.accept (encode .modexp)) hn
  have hrun := run_of_accepted polls hidle hcheck hexec
  have hbit : (t.respond (.data t.statusWord)).statusWord.getLsbD 1 = true :=
    (statusWord_done _).trans hdone
  refine ⟨t.respond (.data t.statusWord), ?_, hres, ⟨hpend, hexp, hmod⟩⟩
  simp only [runModexp, hrun, rd_status, hbit, if_true]
  rfl

/-- R221, R261: with modulus 0 MODEXP is rejected, which the host sees by DONE = 0. -/
theorem runModexp_modulus_zero (h : ReadyForModexp e 0#32 s) (polls : Nat) :
    runModexp polls s = .error modulusError := by
  have hrun := run_of_rejected polls h.idle (s.check_encode_modexp h.modulus) (by decide)
  simp only [runModexp, hrun, rd_status, statusWord_done, State.respond_done, State.reject_done,
    Bool.false_eq_true, if_false]

/-- R238: RSA_BASE is written. -/
theorem ReadyForModexp.wr_base (h : ReadyForModexp e n s) (u : Word) :
    ∃ t, wr 0x50 u s = .ok t ∧ t.rsaBase = u ∧ ReadyForModexp e n t :=
  ⟨_, wr_rsaBase u h.idle, rfl, ⟨h.idle, h.exponent, h.modulus⟩⟩

/-- R238: one code unit's exponentiation. -/
theorem hostModexp_eq (h : ReadyForModexp e n s) (hn : n ≠ 0#32) (polls : Nat) (u : Word) :
    ∃ t, hostModexp polls u s = .ok (modExp u e n, t) ∧ ReadyForModexp e n t := by
  obtain ⟨s1, hwr, rfl, h1⟩ := h.wr_base u
  obtain ⟨s2, hrun, hres, hidle, hexp, hmod⟩ := runModexp_eq h1 hn polls
  have hrd := rd_of_idle (off := 0x5C) (by decide) rfl hidle
  have hread : s2.readReg 0x5C = modExp s1.rsaBase e n := hres
  refine ⟨s2.respond (.data (s2.readReg 0x5C)), ?_, ⟨hidle, hexp, hmod⟩⟩
  simp only [hostModexp, hwr, hrun, hrd, hread]

/-- With modulus 0 the first exponentiation fails (log entry 22). -/
theorem hostModexp_modulus_zero (h : ReadyForModexp e 0#32 s) (polls : Nat) (u : Word) :
    hostModexp polls u s = .error modulusError := by
  obtain ⟨s1, hwr, -, h1⟩ := h.wr_base u
  simp only [hostModexp, hwr, runModexp_modulus_zero h1]

/-- The loop of R238 emits the encrypted code units. -/
theorem hostRsaEncryptLoop_eq (h : ReadyForModexp e n s) (hn : n ≠ 0#32) (polls : Nat → Nat)
    (t : Nat) (U : List (BitVec 16)) :
    ∃ s', hostRsaEncryptLoop polls t U s =
      .ok (U.flatMap fun u => be32 (modExp (u.setWidth 32) e n), s') := by
  induction U generalizing t s with
  | nil => exact ⟨s, rfl⟩
  | cons u U ih =>
    obtain ⟨s1, hmodexp, h1⟩ := hostModexp_eq h hn (polls t) (u.setWidth 32)
    obtain ⟨s', hloop⟩ := ih h1 (t + 1)
    exact ⟨s', by simp only [hostRsaEncryptLoop, hmodexp, hloop, List.flatMap_cons]⟩

/-- The loop of R239 on the machine answers what the loop over the words answers, MalformedInput
included. -/
theorem hostRsaDecryptLoop_eq (h : ReadyForModexp e n s) (hn : n ≠ 0#32) (polls : Nat → Nat)
    (t : Nat) (ws : List Word) :
    (hostRsaDecryptLoop polls t ws s).map Prod.fst = rsaDecryptWords e n ws := by
  induction ws generalizing t s with
  | nil => rfl
  | cons w ws ih =>
    obtain ⟨s1, hmodexp, h1⟩ := hostModexp_eq h hn (polls t) w
    have hrest := ih h1 (t + 1)
    simp only [hostRsaDecryptLoop, hmodexp, rsaDecryptWords]
    cases codeUnit (modExp w e n) with
    | error x => rfl
    | ok u =>
      rw [← hrest]
      cases hostRsaDecryptLoop polls (t + 1) ws s1 with
      | error x => rfl
      | ok answer => rfl

end

/-- R238: the procedure for encryption. -/
theorem hostRsaEncrypt_eq (polls : Nat → Nat) (e n : Word) (U : List (BitVec 16)) {s : State}
    (hidle : s.pending = none) :
    (hostRsaEncrypt polls e n U s).map Prod.fst = rsaEncrypt e n U := by
  obtain ⟨s1, hload, h1⟩ := hostLoadRsa_eq e n hidle
  simp only [hostRsaEncrypt, hload]
  by_cases hn : n = 0#32
  · subst hn
    cases U with
    | nil => rfl
    | cons u U =>
      simp only [hostRsaEncryptLoop, hostModexp_modulus_zero h1]
      rfl
  · obtain ⟨t, hloop⟩ := hostRsaEncryptLoop_eq h1 hn polls 0 U
    rw [hloop, rsaEncrypt, if_neg fun h => hn h.1]
    rfl

/-- R239: the procedure for decryption. -/
theorem hostRsaDecrypt_eq (polls : Nat → Nat) (d n : Word) (B : List Byte) {s : State}
    (hidle : s.pending = none) :
    (hostRsaDecrypt polls d n B s).map Prod.fst = rsaDecrypt d n B := by
  rw [hostRsaDecrypt, rsaDecrypt]
  by_cases h4 : B.length % 4 ≠ 0
  · rw [if_pos h4, if_pos h4]
    rfl
  obtain ⟨s1, hload, h1⟩ := hostLoadRsa_eq d n hidle
  rw [if_neg h4, if_neg h4]
  simp only [hload]
  by_cases hn : n = 0#32
  · subst hn
    by_cases hB : B = []
    · subst hB
      rfl
    · obtain ⟨w, ws, hwords⟩ := List.exists_cons_of_ne_nil (rsaWords_ne_nil (not_not.1 h4) hB)
      rw [if_pos ⟨rfl, hB⟩, hwords]
      simp only [hostRsaDecryptLoop, hostModexp_modulus_zero h1]
      rfl
  · rw [if_neg fun h => hn h.1]
    exact hostRsaDecryptLoop_eq h1 hn polls 0 (rsaWords B)

/-- Settles O59: the two procedures (R238, R239). -/
theorem hostRsaMeetsContract : Obligations.HostRsaMeetsContract := fun polls x n _ hidle =>
  ⟨fun U => hostRsaEncrypt_eq polls x n U hidle, fun B => hostRsaDecrypt_eq polls x n B hidle⟩

end Sys2Proof.Machine
end

section
/-!
PROOFS. Check, submission and the error record (60_exceptions.md R260 to R264), and the meaning of a
form that Check refuses (log entry 14).
-/
namespace Sys2Proof

/-! ### The fields of a word as numbers (R80) -/

theorem opcField_toNat (w : Word) : (opcField w).toNat = w.toNat % 256 := by
  simp [opcField]

theorem immField_toNat (w : Word) : (immField w).toNat = w.toNat / 256 % 256 := by
  simp [immField, Nat.shiftRight_eq_div_pow]

theorem rsvField_ne_zero_iff (w : Word) : rsvField w ≠ 0 ↔ w.toNat / 65536 ≠ 0 := by
  have hrsv : (rsvField w).toNat = w.toNat / 65536 := by
    rw [rsvField, BitVec.extractLsb'_toNat, Nat.shiftRight_eq_div_pow]
    exact Nat.mod_eq_of_lt (by omega)
  rw [← hrsv, ne_eq, ← BitVec.toNat_inj]
  rfl

/-! ### The opcode map by kind of opcode (R82 to R84) -/

/-- The opcodes of R83's table. -/
abbrev assignedOpcodes : List Nat :=
  [0x00, 0x01, 0x10, 0x11, 0x12, 0x13, 0x14, 0x15, 0x16, 0x20, 0x21, 0x22, 0x23, 0x24, 0x25, 0x30,
    0x31, 0x40, 0x41, 0x42, 0x43, 0x44, 0x50]

/-- What the decoder does with a word, by its opcode. -/
inductive DecodeKind (w : Word) (opc : Nat) : Prop where
  /-- The opcode is not in R83's table (R85 a). -/
  | unassigned (hopc : opc ∉ assignedOpcodes) (hdec : decode w = .error .unassignedOpcode)
  /-- The opcode takes no operand (R84). -/
  | plain (i : Instr) (hopc : opc ∈ assignedOpcodes ∧ opc ∉ [0x16, 0x30, 0x31, 0x43])
      (hdec : decode w = decodePlain w i) (hwf : i.wellFormed = true)
      (hmod : i = .modexp ↔ opc = 0x50)
  /-- The opcode takes an operand below `bound` (R82). -/
  | operand (f : Byte → Instr) (bound : Nat)
      (hopc : (opc ∈ [0x16, 0x43] ∧ bound = 8) ∨ (opc ∈ [0x30, 0x31] ∧ bound = 16))
      (hdec : decode w = decodeWithOperand w f)
      (hwf : ∀ n, (f n).wellFormed = decide (n.toNat < bound)) (hmod : ∀ n, f n ≠ .modexp)

/-- Every word is of one of the three kinds: one case for each row of R83's table. -/
theorem decode_kind (w : Word) : DecodeKind w (opcField w).toNat := by
  obtain ⟨r, hr⟩ : ∃ r, decode w = r := ⟨_, rfl⟩
  have harm := hr
  unfold decode at harm
  split at harm
  case h_9 hopc | h_21 hopc =>
    exact .operand _ 8 (.inl ⟨by simp [hopc], rfl⟩) (hr.trans harm.symm) (fun _ => rfl)
      fun _ => Instr.noConfusion
  case h_16 hopc | h_17 hopc =>
    exact .operand _ 16 (.inr ⟨by simp [hopc], rfl⟩) (hr.trans harm.symm) (fun _ => rfl)
      fun _ => Instr.noConfusion
  case h_24 =>
    refine .unassigned ?_ (hr.trans harm.symm)
    simp_all
  all_goals
    rename_i hopc
    exact .plain _ (by simp [hopc]) (hr.trans harm.symm) rfl (by simp [hopc])

end Sys2Proof

namespace Sys2Proof.Machine

/-- R264 on a command without an operand: RSV, then IMM8, then the modulus. -/
theorem State.check_of_decodePlain (s : State) {w : Word} {i : Instr}
    (hdec : decode w = decodePlain w i) (hwf : i.wellFormed = true) :
    s.check w =
      if rsvField w ≠ 0 then .illegalCmd
      else if (immField w).toNat ≠ 0 then .illegalCmd
      else if i = .modexp ∧ s.rsaMod = 0#32 then .modZero else .none := by
  have himm : immField w ≠ 0 ↔ (immField w).toNat ≠ 0 := not_congr BitVec.toNat_inj.symm
  simp only [decodePlain, himm] at hdec
  split_ifs at hdec ⊢ with hrsv h0 hm
  · exact s.check_of_no_command hdec
  · exact s.check_of_no_command hdec
  · rw [s.check_of_command hdec, if_pos hwf, if_pos hm]
  · rw [s.check_of_command hdec, if_pos hwf, if_neg hm]

/-- R264 on a command with an operand: RSV, then the operand's range. -/
theorem State.check_of_decodeWithOperand (s : State) {w : Word} {f : Byte → Instr} {bound : Nat}
    (hdec : decode w = decodeWithOperand w f)
    (hwf : ∀ n, (f n).wellFormed = decide (n.toNat < bound)) (hmod : ∀ n, f n ≠ .modexp) :
    s.check w =
      if rsvField w ≠ 0 then .illegalCmd
      else if bound ≤ (immField w).toNat then .badOperand else .none := by
  unfold decodeWithOperand at hdec
  split_ifs at hdec ⊢ with hrsv himm
  · exact s.check_of_no_command hdec
  · simp [s.check_of_command hdec, hwf, himm]
  · simp [s.check_of_command hdec, hwf, hmod, Nat.lt_of_not_le himm]

/-- Settles O3: the tests that apply to each of the three kinds of opcode (R264). -/
theorem checkTestsInOrder : Obligations.CheckTestsInOrder := by
  intro s w
  simp only [← opcField_toNat, ← immField_toNat, ← rsvField_ne_zero_iff]
  obtain ⟨hopc, hdec⟩ | ⟨i, hopc, hdec, hwf, hmod⟩ | ⟨f, bound, hopc, hdec, hwf, hmod⟩ :=
    decode_kind w
  case unassigned => rw [s.check_of_no_command hdec, if_pos hopc]
  case plain =>
    obtain ⟨hassigned, hplain⟩ := hopc
    rw [s.check_of_decodePlain hdec hwf, if_neg (not_not.2 hassigned)]
    simp only [List.mem_cons, List.not_mem_nil, or_false, not_or] at hplain
    simp [hmod, hplain]
  case operand =>
    rw [s.check_of_decodeWithOperand hdec hwf hmod]
    generalize (opcField w).toNat = opc at hopc ⊢
    obtain ⟨hopc, rfl⟩ | ⟨hopc, rfl⟩ := hopc <;> fin_cases hopc <;> simp

/-! ### Submission and the error record (R260 to R262) -/

/-- R260: a CMD write while busy records error 3 and nothing else. -/
theorem State.busWrite_cmd_busy {s : State} (hbusy : s.pending ≠ none) (v : Word) :
    s.busWrite 0x0C v = s.raiseError .cmdWhileBusy v := by
  obtain ⟨-, heq⟩ | ⟨hidle, -⟩ | ⟨hidle, -⟩ := s.submit_cases v
  · exact heq
  · exact absurd hidle hbusy
  · exact absurd hidle hbusy

/-- R260: an idle CMD write of a word that Check passes makes it pending and clears DONE. -/
theorem State.busWrite_cmd_accepted {s : State} {v : Word} (hidle : s.pending = none)
    (hcheck : s.check v = .none) : s.busWrite 0x0C v = s.clearDone.accept v := by
  obtain ⟨hbusy, -⟩ | ⟨-, -, heq⟩ | ⟨-, hrefused, -⟩ := s.submit_cases v
  · exact absurd hidle hbusy
  · exact heq
  · exact absurd hcheck hrefused

/-- Settles O17: the three ends of Submit (R260). -/
theorem submitAcceptsOrRejects : Obligations.SubmitAcceptsOrRejects := fun _ v =>
  ⟨fun hbusy => State.busWrite_cmd_busy hbusy v,
    fun hidle hrefused => State.busWrite_cmd_refused hidle rfl hrefused,
    fun hidle hcheck => State.busWrite_cmd_accepted hidle hcheck⟩

/-- R262: with ERR clear, an error is recorded. -/
theorem State.raiseError_of_noError {s : State} (herr : s.err = false) (code : ErrCode)
    (info : Word) :
    s.raiseError code info = { s with err := true, errCode := code, errInfo := info } := by
  simp [State.raiseError, herr]

/-- R262: with ERR set, the record is kept. -/
theorem State.raiseError_of_error {s : State} (herr : s.err = true) (code : ErrCode) (info : Word) :
    s.raiseError code info = s := by
  simp only [State.raiseError, herr, if_true]
  rw [← herr]

/-- Settles O11: the record, and Submit on the state that carries it, where Check answers the same
(R262). -/
theorem firstErrorIsKept : Obligations.FirstErrorIsKept := by
  intro s code info
  refine ⟨fun herr => s.raiseError_of_noError herr code info,
    fun herr => s.raiseError_of_error herr code info, fun v hidle hcheck => ?_⟩
  have hcheck' : (s.raiseError code info).check v = .none := (State.check_congr rfl v).trans hcheck
  rw [State.busWrite_cmd_accepted (s := s.raiseError code info) hidle hcheck', State.accept_pending]

/-! ### The meaning of a form that Check refuses (log entry 14) -/

/-- A command whose operand is out of range is rejected when it is run. -/
theorem exec_illFormed {i : Instr} (hi : i.wellFormed = false) (s : State) :
    exec i s = .next (s.reject .badOperand (encode i)) := by
  cases i with
  | sbox n | ksEncStep n | ksDecStep n | pad n => exact if_neg (Bool.eq_false_iff.1 hi)
  | _ => cases hi

/-- MODEXP with modulus 0 is rejected when it is run. -/
theorem exec_modexp_modulus_zero {s : State} (hm : s.rsaMod = 0#32) :
    exec .modexp s = .next (s.reject .modZero (encode .modexp)) :=
  if_pos hm

/-- Settles O5: the rejection written out (log entry 14). -/
theorem meaningOfRefusedFormIsRejection : Obligations.MeaningOfRefusedFormIsRejection :=
  fun s => ⟨fun _ hi => exec_illFormed hi s, fun hm => exec_modexp_modulus_zero hm⟩

end Sys2Proof.Machine
end

section
/-!
PROOFS. Completion of an accepted command (60_exceptions.md R261, R266), and what the host can
change while it is pending (R267).
-/
namespace Sys2Proof.Machine

/-! ### The completion step (R266) -/

/-- R101: the one word that decodes to SRESET. -/
theorem eq_sreset_iff {w : Word} {i : Instr} (hd : decode w = .ok i) :
    i = .sreset ↔ w = 0x00000001#32 := by
  constructor
  · rintro rfl
    exact decode_eq_ok_iff.1 hd
  · rintro rfl
    exact Except.ok.inj (hd.symm.trans (decode_encode .sreset))

/-- R266: where Check passes the pending word, the engine's turn runs its command, with no
rejection: the error record is as it was, or cleared by SRESET. -/
theorem exists_completion {s : State} {w : Word} (hp : s.pending = some w)
    (hcheck : s.check w = .none) :
    ∃ (i : Instr) (t : State), decode w = .ok i ∧ exec i s = .next t ∧ engineTurn s = .next t
      ∧ t.pending = none ∧ t.done = true ∧ t.ieDone = s.ieDone ∧ t.ieErr = s.ieErr
      ∧ (w ≠ 0x00000001#32 → t.err = s.err ∧ t.errCode = s.errCode ∧ t.errInfo = s.errInfo)
      ∧ (w = 0x00000001#32 → t.err = false ∧ t.errCode = .none ∧ t.errInfo = 0#32) := by
  obtain ⟨i, hd, hwf, hm⟩ := State.check_eq_none hcheck
  obtain ⟨t, ht⟩ := engineTurn_next s
  have hexec : exec i s = .next t := (engineTurn_some hp hd).symm.trans ht
  have heffect := exec_effect hexec
  obtain ⟨hidle, hdone, hkept, hcleared⟩ := heffect.status_of_accepted hwf hm
  obtain ⟨hieDone, hieErr, -⟩ := heffect.ctrl_frame
  have hsreset := eq_sreset_iff hd
  exact ⟨i, t, hd, hexec, ht, hidle, hdone, hieDone, hieErr, fun hw => hkept (mt hsreset.1 hw),
    fun hw => hcleared (hsreset.2 hw)⟩

/-- Under the invariant a pending word passes Check (R260). -/
theorem State.check_of_inv {s : State} {w : Word} (h : s.inv = true) (hp : s.pending = some w) :
    s.check w = .none := by
  obtain ⟨-, hpend⟩ := s.inv_iff.1 h
  obtain ⟨hcheck, -⟩ := s.pendingAccepted_iff.1 hpend w hp
  exact hcheck

/-- Settles O22: under the invariant the pending word completes (R266, R101). -/
theorem completionRaisesNoError : Obligations.CompletionRaisesNoError := by
  intro s w h hp
  obtain ⟨i, t, -, -, hturn⟩ := exists_completion hp (State.check_of_inv h hp)
  exact ⟨t, hturn⟩

/-- Settles O18: accepted, rejected, or refused while busy (R261). -/
theorem cmdWriteClearsDone : Obligations.CmdWriteClearsDone := by
  intro s v
  refine ⟨fun hidle => ?_, fun hbusy => ?_⟩
  · by_cases hcheck : s.check v = .none
    · rw [State.busWrite_cmd_accepted hidle hcheck]
      have hcheck' : (s.clearDone.accept v).check v = .none :=
        (State.check_congr rfl v).trans hcheck
      obtain ⟨i, t, -, -, hturn, hidle', hdone, -⟩ := exists_completion rfl hcheck'
      exact ⟨rfl, .inl rfl, fun _ => ⟨t, hturn, hidle', hdone⟩⟩
    · rw [State.busWrite_cmd_refused hidle rfl hcheck]
      refine ⟨rfl, .inr ⟨hidle, rfl⟩, fun hp => ?_⟩
      cases hidle.symm.trans hp
  · rw [State.busWrite_cmd_busy hbusy]
    exact ⟨rfl, rfl⟩

/-! ### Host accesses while a command is pending (R56, R267) -/

/-- `t` is `s` but for CTRL, STATUS, ERRINFO, and the model's fields for the bus (log entries 6 and
8); DONE was not set. -/
def State.SameButStatus (s t : State) : Prop :=
  t = { s with
    ieDone := t.ieDone, ieErr := t.ieErr
    done := t.done, err := t.err, errCode := t.errCode, errInfo := t.errInfo
    response := t.response, busyReads := t.busyReads }
  ∧ (s.done = false → t.done = false)

/-- R56: while busy, no write reaches a data register or PENDING. -/
theorem State.busWrite_sameButStatus {s : State} (hbusy : s.pending ≠ none) (off : Nat) (v : Word) :
    s.SameButStatus (s.busWrite off v) := by
  obtain ⟨-, heq⟩ | ⟨-, heq⟩ | ⟨rfl, -⟩ | ⟨-, -, heq⟩ | ⟨-, hidle, -⟩ | ⟨-, heq⟩ :=
    s.busWrite_cases off v
  · exact heq ▸ ⟨rfl, id⟩
  · rw [heq, s.writeStatus_eq]
    exact ⟨rfl, fun hdone => by simp [hdone]⟩
  · exact State.busWrite_cmd_busy hbusy v ▸ ⟨rfl, id⟩
  · exact heq ▸ ⟨rfl, id⟩
  · exact absurd hidle hbusy
  · exact heq.symm ▸ ⟨rfl, id⟩

/-- R267: the same for every host access. -/
theorem handleEvent_sameButStatus {s t : State} {e : Event} (hbusy : s.pending ≠ none)
    (he : e ≠ .engine) (hr : e ≠ .reset) (h : handleEvent e s = .next t) : s.SameButStatus t := by
  obtain ⟨r, rfl⟩ | ⟨r, rfl⟩ | ⟨off, v, -, -, rfl⟩ := handleEvent_access_cases h he hr
  · exact ⟨rfl, id⟩
  · exact ⟨rfl, id⟩
  · obtain ⟨heq, hdone⟩ := State.busWrite_sameButStatus hbusy off v
    exact ⟨congrArg (fun u => u.respond .written) heq, hdone⟩

/-- Settles O19: each register is read off `SameButStatus` (R267). -/
theorem hostCannotChangeDataWhileBusy : Obligations.HostCannotChangeDataWhileBusy := by
  intro s t e hbusy he hr h
  obtain ⟨heq, hdone⟩ := handleEvent_sameButStatus hbusy he hr h
  rw [heq]
  exact ⟨rfl, rfl, rfl, rfl, rfl, rfl, rfl, rfl, rfl, rfl, rfl, rfl, rfl, rfl, rfl, rfl, hdone⟩

/-! ### Runs of the schedule (R62, R266) -/

/-- A run of `k + j` steps is a run of `k` steps and then one of `j` steps. -/
theorem core_run_add {k : Nat} {s u : State} (h : Host.Core.run Sys2Proof.core k s = .next u)
    (j : Nat) : Host.Core.run Sys2Proof.core (k + j) s = Host.Core.run Sys2Proof.core j u := by
  have general : ∀ (M : Host.Core) (k : Nat) (a b : M.State), M.run k a = .next b →
      M.run (k + j) a = M.run j b := by
    intro M k
    induction k with
    | zero =>
      rintro a b ⟨⟩
      rw [Nat.zero_add]
    | succ k ih =>
      intro a b hab
      rw [Nat.succ_add, Host.Core.run]
      rw [Host.Core.run] at hab
      cases hstep : M.step a with
      | next c =>
        rw [hstep] at hab
        exact ih c b hab
      | fault x | refused x => simp [hstep] at hab
  exact general Sys2Proof.core k s u h

/-- A run of one step is that step. -/
theorem core_run_one (s : State) : Host.Core.run Sys2Proof.core 1 s = step s := by
  have general : ∀ (M : Host.Core) (a : M.State), M.run 1 a = M.step a := by
    intro M a
    rw [Host.Core.run]
    cases M.step a <;> rfl
  exact general Sys2Proof.core s

/-- Host accesses to the window all happen while a command is pending: PENDING keeps the word, the
rest of the schedule waits, and the invariant is kept (R56, R62, R267). -/
theorem run_accesses {w : Word} {accesses rest : List Event}
    (hacc : ∀ e ∈ accesses, e ≠ .engine ∧ e ≠ .reset ∧ e.inWindow = true) {s : State}
    (hinv : s.inv = true) (hp : s.pending = some w) (hevents : s.events = accesses ++ rest) :
    ∃ u : State, Host.Core.run Sys2Proof.core accesses.length s = .next u
      ∧ u.inv = true ∧ u.pending = some w ∧ u.events = rest := by
  induction accesses generalizing s with
  | nil => exact ⟨s, rfl, hinv, hp, hevents⟩
  | cons e accesses ih =>
    obtain ⟨⟨hengine, hreset, hwindow⟩, hlater⟩ := List.forall_mem_cons.1 hacc
    obtain ⟨t, ht⟩ := handleEvent_inside (s.schedule (accesses ++ rest)) hwindow
    have hstep : step s = .next t := (step_cons hevents).trans ht
    have hbusy : (s.schedule (accesses ++ rest)).pending ≠ none := by simp [hp]
    obtain ⟨hsame, -⟩ := handleEvent_sameButStatus hbusy hengine hreset ht
    rw [List.length_cons, core_run_succ hstep]
    exact ih hlater (stepKeepsInvariant s t hinv hstep) ((congrArg State.pending hsame).trans hp)
      (congrArg State.events hsame)

/-- The engine's turn leaves nothing pending, whatever word was, and takes nothing off the schedule
(R266, R278; log entry 14). -/
theorem engineTurn_idles {s t : State} (h : engineTurn s = .next t) :
    t.pending = none ∧ t.events = s.events := by
  cases hp : s.pending with
  | none =>
    rw [engineTurn_none hp] at h
    cases h
    exact ⟨hp, rfl⟩
  | some w =>
    cases hd : decode w with
    | ok i =>
      rw [engineTurn_some hp hd] at h
      obtain ⟨hevents, -, -, hidle⟩ := exec_model_fields h
      exact ⟨hidle, hevents⟩
    | error x =>
      simp only [engineTurn, engineTurnBy, runWordBy, hp, hd] at h
      cases h
      exact ⟨rfl, rfl⟩

/-- No bus write touches the schedule (R56; log entry 2). -/
theorem State.busWrite_events (s : State) (off : Nat) (v : Word) :
    (s.busWrite off v).events = s.events := by
  obtain ⟨-, heq⟩ | ⟨-, heq⟩ | ⟨-, heq⟩ | ⟨-, -, heq⟩ | ⟨-, -, heq⟩ | ⟨-, heq⟩ :=
    s.busWrite_cases off v <;> rw [heq]
  · rfl
  · rw [s.writeStatus_eq]
  · obtain ⟨-, h⟩ | ⟨-, -, h⟩ | ⟨-, -, h⟩ := s.submit_cases v <;> rw [h] <;> rfl
  · rfl
  · obtain ⟨-, -, -, -, -, -, -, -, -, hevents, -⟩ := s.writeData_frame off v
    exact hevents

/-- No event touches the events after it (R62; log entry 20 for the reset input). -/
theorem handleEvent_events {s t : State} {e : Event} (h : handleEvent e s = .next t) :
    t.events = s.events := by
  by_cases he : e = .engine
  · subst he
    exact (engineTurn_idles h).2
  by_cases hr : e = .reset
  · subst hr
    cases h
    rfl
  obtain ⟨r, rfl⟩ | ⟨r, rfl⟩ | ⟨off, v, -, -, rfl⟩ := handleEvent_access_cases h he hr
  · rfl
  · rfl
  · exact s.busWrite_events off v

/-- A schedule that stays in the window runs to its end, and the engine's turn after it leaves
nothing pending (R266; log entries 2 and 3). -/
theorem run_schedule {events : List Event} (hwindow : ∀ e ∈ events, e.inWindow = true) {s : State}
    (hevents : s.events = events) :
    ∃ t : State, Host.Core.run Sys2Proof.core (events.length + 1) s = .next t
      ∧ t.events = [] ∧ t.pending = none := by
  induction events generalizing s with
  | nil =>
    obtain ⟨t, ht⟩ := engineTurn_next s
    obtain ⟨hidle, hkept⟩ := engineTurn_idles ht
    exact ⟨t, (core_run_one s).trans ((step_nil hevents).trans ht), hkept.trans hevents, hidle⟩
  | cons e events ih =>
    obtain ⟨hin, hlater⟩ := List.forall_mem_cons.1 hwindow
    obtain ⟨t, ht⟩ := handleEvent_inside (s.schedule events) hin
    rw [List.length_cons, core_run_succ ((step_cons hevents).trans ht)]
    exact ih hlater (handleEvent_events ht)

/-- Settles O23: the accesses before the turn, then the turn; and any schedule in the window
(R266). -/
theorem everyCommandCompletes : Obligations.EveryCommandCompletes := by
  refine ⟨fun s w accesses rest hinv hp hevents hacc => ?_,
    fun s hwindow => run_schedule hwindow rfl⟩
  obtain ⟨tail, hsplit, hturn⟩ : ∃ tail, s.events = accesses ++ tail
      ∧ (tail = .engine :: rest ∨ (tail = [] ∧ rest = [])) := by
    obtain h | ⟨h, hrest⟩ := hevents
    · exact ⟨_, h, .inl rfl⟩
    · exact ⟨[], by simpa using h, .inr ⟨rfl, hrest⟩⟩
  obtain ⟨u, hrun, huinv, hup, rfl⟩ := run_accesses hacc hinv hp hsplit
  have hcheck : (u.schedule rest).check w = .none :=
    (State.check_congr rfl w).trans (State.check_of_inv huinv hup)
  obtain ⟨i, t, hd, hexec, hengine, hidle, hdone, -⟩ :=
    exists_completion (s := u.schedule rest) hup hcheck
  have hstep : step u = .next t := (step_eq_engineTurn hturn).trans hengine
  obtain ⟨hkept, -⟩ := exec_model_fields hexec
  exact ⟨i, u, t, hd, hrun, hup, hexec, (core_run_add hrun 1).trans ((core_run_one u).trans hstep),
    hidle, hdone, hkept⟩

end Sys2Proof.Machine
end

section
/-!
PROOFS. The reset state and the reset input (70_reset_and_hazards.md R290 to R292).
-/
namespace Sys2Proof.Machine

/-- R292: after reset each register but ID reads 0. -/
theorem State.readReg_reset {off : Nat} (h : 0 < off) : State.reset.readReg off = 0#32 := by
  unfold State.readReg
  split
  case h_1 => omega
  all_goals rfl

/-- Settles O6 (R292). -/
theorem resetReadsZero : Obligations.ResetReadsZero :=
  ⟨rfl, rfl, rfl, fun _ h _ => State.readReg_reset h⟩

/-- Settles O7: the step is the reset action, after which the engine is idle (R290, R291; log
entry 20). -/
theorem resetAbortsPendingCommand : Obligations.ResetAbortsPendingCommand := fun s rest hevents =>
  ⟨(s.schedule rest).applyReset, step_cons hevents, rfl, engineTurn_none rfl⟩

/-- Settles O25: the error record is clear, and nothing is pending (R290, R292). -/
theorem resetMeetsInvariant : Obligations.ResetMeetsInvariant :=
  (State.inv_iff State.reset).2
    ⟨State.errorRecordTruthful_of_clear rfl rfl rfl, State.pendingAccepted_of_idle rfl⟩

end Sys2Proof.Machine
end

section
/-!
PROOFS. The busy protocol (70_reset_and_hazards.md R300): a host that keeps it reads no arbitrary value
and gets no busy error.
-/
namespace Sys2Proof.Machine

/-! ### What records no busy error -/

/-- From `s` to `t` no arbitrary read value was used up (R39), and ERRCODE was kept or is no busy
error (codes 3 and 4 of R265). -/
def State.NoBusyError (s t : State) : Prop :=
  t.busyReads = s.busyReads
  ∧ (t.errCode = s.errCode ∨ t.errCode ∉ [.cmdWhileBusy, .writeWhileBusy])

/-- A cleared ERRCODE is no busy error (R263). -/
theorem State.noBusyError_of_clear {s t : State} (hreads : t.busyReads = s.busyReads)
    (hcode : t.errCode = .none) : s.NoBusyError t :=
  ⟨hreads, .inr (hcode ▸ by decide)⟩

/-- R264: Check gives no busy error; those come from the bus alone. -/
theorem State.check_notMem_busyErrors (s : State) (w : Word) :
    s.check w ∉ [.cmdWhileBusy, .writeWhileBusy] := by
  cases hd : decode w with
  | error e =>
    rw [s.check_of_no_command hd]
    decide
  | ok i =>
    rw [s.check_of_command hd]
    split_ifs <;> decide

/-- R264: a rejection with Check's code records no busy error. -/
theorem State.noBusyError_reject_check (s : State) (w : Word) :
    s.NoBusyError (s.reject (s.check w) w) := by
  refine ⟨rfl, ?_⟩
  rw [State.reject_errCode]
  split_ifs
  · exact .inl rfl
  · exact .inr (s.check_notMem_busyErrors w)

/-! ### The engine's turn -/

/-- A pending word that Check refuses is rejected with Check's code when it is run, whatever Check's
reason (log entry 14). -/
theorem engineTurn_refused {s : State} {w : Word} (hp : s.pending = some w)
    (hcheck : s.check w ≠ .none) : engineTurn s = .next (s.reject (s.check w) w) := by
  cases hd : decode w with
  | error e =>
    rw [s.check_of_no_command hd]
    simp only [engineTurn, engineTurnBy, runWordBy, hp, hd]
  | ok i =>
    rw [engineTurn_some hp hd, eq_encode_of_decode hd]
    cases hwf : i.wellFormed with
    | false => rw [s.check_encode_illFormed hwf, exec_illFormed hwf]
    | true =>
      obtain ⟨rfl, hm⟩ : i = .modexp ∧ s.rsaMod = 0#32 := by
        by_contra hm
        exact hcheck (by rw [s.check_of_command hd, if_pos hwf, if_neg hm])
      rw [s.check_encode_modexp hm, exec_modexp_modulus_zero hm]

/-- R266: the engine's turn, idle, completing a command or rejecting its word. -/
theorem noBusyError_engineTurn {s t : State} (h : engineTurn s = .next t) : s.NoBusyError t := by
  cases hp : s.pending with
  | none =>
    rw [engineTurn_none hp] at h
    cases h
    exact ⟨rfl, .inl rfl⟩
  | some w =>
    by_cases hcheck : s.check w = .none
    · obtain ⟨i, u, -, hexec, hturn, -, -, -, -, hkept, hcleared⟩ := exists_completion hp hcheck
      cases hturn.symm.trans h
      obtain ⟨-, -, hreads, -⟩ := exec_model_fields hexec
      by_cases hw : w = 0x00000001#32
      · obtain ⟨-, hcode, -⟩ := hcleared hw
        exact State.noBusyError_of_clear hreads hcode
      · obtain ⟨-, hcode, -⟩ := hkept hw
        exact ⟨hreads, .inl hcode⟩
    · cases (engineTurn_refused hp hcheck).symm.trans h
      exact s.noBusyError_reject_check w

/-! ### Host accesses -/

/-- An address in the window is the base address and its offset (R50). -/
theorem eq_base_add_of_windowOffset {addr off : Nat} (h : windowOffset addr = some off) :
    addr = Config.base + off ∧ off < 0x100 := by
  unfold windowOffset at h
  split at h
  · cases h
    omega
  · cases h

/-- R300 on a read: no data register while busy. -/
theorem keepsBusyProtocol_read {s : State} {off : Nat} {size : Size} (hlt : off < 0x100) :
    Event.keepsBusyProtocol s (.read (Config.base + off) size) = true ↔
      (s.pending ≠ none → isDataOffset off = false) := by
  cases hp : s.pending <;> simp [Event.keepsBusyProtocol, windowOffset_base hlt, State.busy, hp]

/-- R300 on a write: no data register and no CMD while busy. -/
theorem keepsBusyProtocol_write {s : State} {off : Nat} {size : Size} {v : Word}
    (hlt : off < 0x100) :
    Event.keepsBusyProtocol s (.write (Config.base + off) size v) = true ↔
      (s.pending ≠ none → isDataOffset off = false ∧ off ≠ 0x0C) := by
  cases hp : s.pending <;> simp [Event.keepsBusyProtocol, windowOffset_base hlt, State.busy, hp]

/-- The writable data registers are data registers (R51). -/
theorem isDataOffset_of_isWritableData {off : Nat} (hw : isWritableData off = true) :
    isDataOffset off = true := by
  have hoff := (isWritableData_iff off).1 hw
  simp only [isDataOffset, Bool.and_eq_true, decide_eq_true_eq]
  omega

/-- R55, R300: a read of no data register while busy uses up no arbitrary value. -/
theorem State.noBusyError_readAt {s : State} {off : Nat}
    (hkeeps : s.pending ≠ none → isDataOffset off = false) (size : Size) :
    s.NoBusyError (s.readAt off size) := by
  have hread : s.busRead off = (s.readReg off, s) := by
    refine if_neg fun hb => ?_
    obtain ⟨hdata, hbusy⟩ := Bool.and_eq_true_iff.1 hb
    exact absurd hdata (Bool.eq_false_iff.1 (hkeeps (Option.isSome_iff_ne_none.1 hbusy)))
  rw [State.readAt, hread]
  split <;> exact ⟨rfl, .inl rfl⟩

/-- R260: an idle CMD write is accepted, or rejected with Check's code. -/
theorem State.noBusyError_submit {s : State} (hidle : s.pending = none) (v : Word) :
    s.NoBusyError (s.submit v) := by
  obtain ⟨hbusy, -⟩ | ⟨-, -, heq⟩ | ⟨-, -, heq⟩ := s.submit_cases v
  · exact absurd hidle hbusy
  · exact heq ▸ ⟨rfl, .inl rfl⟩
  · exact heq ▸ s.noBusyError_reject_check v

/-- R56, R300: a write that keeps the protocol is not refused for being made while busy. -/
theorem State.noBusyError_busWrite {s : State} {off : Nat}
    (hkeeps : s.pending ≠ none → isDataOffset off = false ∧ off ≠ 0x0C) (v : Word) :
    s.NoBusyError (s.busWrite off v) := by
  obtain ⟨-, heq⟩ | ⟨-, heq⟩ | ⟨hcmd, heq⟩ | ⟨hw, hbusy, -⟩ | ⟨-, -, heq⟩ | ⟨-, heq⟩ :=
    s.busWrite_cases off v
  · exact heq ▸ ⟨rfl, .inl rfl⟩
  · rw [heq, s.writeStatus_eq]
    cases v.getLsbD 2 with
    | true => exact State.noBusyError_of_clear rfl rfl
    | false => exact ⟨rfl, .inl rfl⟩
  · have hidle : s.pending = none := by
      by_contra hbusy
      exact (hkeeps hbusy).2 hcmd
    exact heq ▸ State.noBusyError_submit hidle v
  · obtain ⟨hdata, -⟩ := hkeeps hbusy
    cases hdata.symm.trans (isDataOffset_of_isWritableData hw)
  · obtain ⟨-, -, -, -, hcode, -, -, -, -, -, -, -, hreads⟩ := s.writeData_frame off v
    exact heq ▸ ⟨hreads, .inl hcode⟩
  · exact heq.symm ▸ ⟨rfl, .inl rfl⟩

/-- The same for a write of any size, aligned or not (R54). -/
theorem State.noBusyError_writeAt {s : State} {off : Nat}
    (hkeeps : s.pending ≠ none → isDataOffset off = false ∧ off ≠ 0x0C) (size : Size) (v : Word) :
    s.NoBusyError (s.writeAt off size v) := by
  unfold State.writeAt
  split
  · exact State.noBusyError_busWrite hkeeps v
  · exact ⟨rfl, .inl rfl⟩

/-! ### Every event -/

/-- R300: an event that keeps the busy protocol records no busy error. -/
theorem noBusyError_handleEvent {s t : State} {e : Event} (hkeeps : e.keepsBusyProtocol s = true)
    (h : handleEvent e s = .next t) : s.NoBusyError t := by
  have hin : e.inWindow = true := by
    by_contra hout
    cases (handleEvent_outside s (Bool.eq_false_iff.2 hout)).symm.trans h
  cases e with
  | read addr size =>
    obtain ⟨off, hoff⟩ := Option.isSome_iff_exists.1 hin
    obtain ⟨rfl, hlt⟩ := eq_base_add_of_windowOffset hoff
    cases (handleEvent_read_base hlt).symm.trans h
    exact State.noBusyError_readAt ((keepsBusyProtocol_read hlt).1 hkeeps) size
  | write addr size v =>
    obtain ⟨off, hoff⟩ := Option.isSome_iff_exists.1 hin
    obtain ⟨rfl, hlt⟩ := eq_base_add_of_windowOffset hoff
    cases (handleEvent_write_base hlt).symm.trans h
    exact State.noBusyError_writeAt ((keepsBusyProtocol_write hlt).1 hkeeps) size v
  | engine => exact noBusyError_engineTurn h
  | reset =>
    cases h
    exact State.noBusyError_of_clear rfl rfl

/-- Settles O20: a busy error afterwards can only be one that was kept (R300). -/
theorem busyProtocolAvoidsBusyErrors : Obligations.BusyProtocolAvoidsBusyErrors := by
  intro s t e hkeeps h
  obtain ⟨hreads, hcode⟩ := noBusyError_handleEvent hkeeps h
  have hkept : ∀ code ∈ [ErrCode.cmdWhileBusy, .writeWhileBusy], t.errCode = code →
      s.errCode = code := by
    rintro code hmem rfl
    exact (hcode.resolve_right fun hnew => hnew hmem).symm
  exact ⟨hreads, hkept _ (by decide), hkept _ (by decide)⟩

end Sys2Proof.Machine
end
